-- ==== Sys2Proof/Word.lean ====
section
/-! DEFINITION. The two word types of the core (00_scope.md R8, R10). -/

namespace Sys2Proof

/-- A byte: a general register, one memory byte (R8 `XLEN8`, R10). -/
abbrev Byte := BitVec 8

/-- A 16-bit word: an address, `pc`, `sp`, a register pair (R8 `ALEN`, R10). -/
abbrev Word := BitVec 16

end Sys2Proof
end

