-- ==== Sys2Proof/Syntax.lean ====
section
/-! DEFINITION. The instructions of the core, one constructor per row of spec/opcode_table.json (30_encoding.md R95, R96), and
the names of their operands (10_state.md R20, R21; 30_encoding.md R92, R100). -/

namespace Sys2Proof

/-- The eight 8-bit registers (10_state.md R20). -/
inductive Reg where
  | a | f | b | c | d | e | h | l
deriving DecidableEq, Repr

/-- The register operands `r` of an instruction: every register but `F` (30_encoding.md R92, register codes other than 6). -/
inductive GReg where
  | b | c | d | e | h | l | a
deriving DecidableEq, Repr

/-- The register a register operand names. -/
def GReg.reg : GReg → Reg
  | .b => .b | .c => .c | .d => .d | .e => .e | .h => .h | .l => .l | .a => .a

/-- The four register pairs (10_state.md R21), which are also the operands of `PUSH` and `POP` (R92 `rp2`). -/
inductive Pair where
  | bc | de | hl | af
deriving DecidableEq, Repr

/-- The pair operands of 16-bit loads and arithmetic (R92 `rp`). -/
inductive Rp where
  | bc | de | hl | sp
deriving DecidableEq, Repr

/-- A byte operand that is read and written: a register or the byte at `(HL)` (R92, register codes 0 to 7). -/
inductive Loc where
  | r (g : GReg)
  | atHL
deriving DecidableEq, Repr

/-- The second operand of an 8-bit ALU instruction: a register, the byte at `(HL)`, or an immediate (42_alu8.md). -/
inductive Src where
  | r (g : GReg)
  | atHL
  | n (v : Byte)
deriving DecidableEq, Repr

/-- The memory operands that only `A` is loaded from and stored to: `(BC)`, `(DE)`, `(nn)`, the high page `(n)` of `LDH`, and
`(C)` (R100). -/
inductive AMem where
  | atBC
  | atDE
  | atNN (nn : Word)
  | highN (n : Byte)
  | highC
deriving DecidableEq, Repr

/-- The two stepping forms of `(HL)`: `(HL+)` and `(HL-)` (R100). -/
inductive HLStep where
  | plus
  | minus
deriving DecidableEq, Repr

/-- The rotate kinds, codes 0 to 3 (R92). -/
inductive Rot where
  | rlc | rrc | rl | rr
deriving DecidableEq, Repr

/-- The 8-bit operations on `A` and an operand (R92). -/
inductive AluOp where
  | add | sub | sbc | xor | cp
deriving DecidableEq, Repr

/-- The conditions of the relative jumps (45_stack_control.md R246 to R248). -/
inductive JumpCond where
  | always | nz | z
deriving DecidableEq, Repr

/-- The instructions: one constructor per row of the opcode table, named as the row is, with the immediate `n`, the displacement
byte `e` or the word `nn` the instruction carries (R91, R100). `at` stands for the parentheses of a memory operand. -/
inductive Instr where
  -- Loads and stores, 41_loads.md
  /-- `LD BC,nn` (R159) -/
  | ld_BC_nn (nn : Word)
  /-- `LD (BC),A` (R147) -/
  | ld_atBC_A
  /-- `LD B,n` (R143) -/
  | ld_B_n (n : Byte)
  /-- `LD (nn),SP` (R160) -/
  | ld_atnn_SP (nn : Word)
  /-- `LD A,(BC)` (R145) -/
  | ld_A_atBC
  /-- `LD C,n` (R143) -/
  | ld_C_n (n : Byte)
  /-- `LD DE,nn` (R159) -/
  | ld_DE_nn (nn : Word)
  /-- `LD (DE),A` (R148) -/
  | ld_atDE_A
  /-- `LD D,n` (R143) -/
  | ld_D_n (n : Byte)
  /-- `LD A,(DE)` (R146) -/
  | ld_A_atDE
  /-- `LD E,n` (R143) -/
  | ld_E_n (n : Byte)
  /-- `LD HL,nn` (R159) -/
  | ld_HL_nn (nn : Word)
  /-- `LD (HL+),A` (R149) -/
  | ld_atHLplus_A
  /-- `LD H,n` (R143) -/
  | ld_H_n (n : Byte)
  /-- `LD A,(HL+)` (R151) -/
  | ld_A_atHLplus
  /-- `LD L,n` (R143) -/
  | ld_L_n (n : Byte)
  /-- `LD SP,nn` (R159) -/
  | ld_SP_nn (nn : Word)
  /-- `LD (HL-),A` (R150) -/
  | ld_atHLminus_A
  /-- `LD (HL),n` (R144) -/
  | ld_atHL_n (n : Byte)
  /-- `LD A,(HL-)` (R152) -/
  | ld_A_atHLminus
  /-- `LD A,n` (R143) -/
  | ld_A_n (n : Byte)
  /-- `LD B,B` (R140) -/
  | ld_B_B
  /-- `LD B,C` (R140) -/
  | ld_B_C
  /-- `LD B,D` (R140) -/
  | ld_B_D
  /-- `LD B,E` (R140) -/
  | ld_B_E
  /-- `LD B,H` (R140) -/
  | ld_B_H
  /-- `LD B,L` (R140) -/
  | ld_B_L
  /-- `LD B,(HL)` (R141) -/
  | ld_B_atHL
  /-- `LD B,A` (R140) -/
  | ld_B_A
  /-- `LD C,B` (R140) -/
  | ld_C_B
  /-- `LD C,C` (R140) -/
  | ld_C_C
  /-- `LD C,D` (R140) -/
  | ld_C_D
  /-- `LD C,E` (R140) -/
  | ld_C_E
  /-- `LD C,H` (R140) -/
  | ld_C_H
  /-- `LD C,L` (R140) -/
  | ld_C_L
  /-- `LD C,(HL)` (R141) -/
  | ld_C_atHL
  /-- `LD C,A` (R140) -/
  | ld_C_A
  /-- `LD D,B` (R140) -/
  | ld_D_B
  /-- `LD D,C` (R140) -/
  | ld_D_C
  /-- `LD D,D` (R140) -/
  | ld_D_D
  /-- `LD D,E` (R140) -/
  | ld_D_E
  /-- `LD D,H` (R140) -/
  | ld_D_H
  /-- `LD D,L` (R140) -/
  | ld_D_L
  /-- `LD D,(HL)` (R141) -/
  | ld_D_atHL
  /-- `LD D,A` (R140) -/
  | ld_D_A
  /-- `LD E,B` (R140) -/
  | ld_E_B
  /-- `LD E,C` (R140) -/
  | ld_E_C
  /-- `LD E,D` (R140) -/
  | ld_E_D
  /-- `LD E,E` (R140) -/
  | ld_E_E
  /-- `LD E,H` (R140) -/
  | ld_E_H
  /-- `LD E,L` (R140) -/
  | ld_E_L
  /-- `LD E,(HL)` (R141) -/
  | ld_E_atHL
  /-- `LD E,A` (R140) -/
  | ld_E_A
  /-- `LD H,B` (R140) -/
  | ld_H_B
  /-- `LD H,C` (R140) -/
  | ld_H_C
  /-- `LD H,D` (R140) -/
  | ld_H_D
  /-- `LD H,E` (R140) -/
  | ld_H_E
  /-- `LD H,H` (R140) -/
  | ld_H_H
  /-- `LD H,L` (R140) -/
  | ld_H_L
  /-- `LD H,(HL)` (R141) -/
  | ld_H_atHL
  /-- `LD H,A` (R140) -/
  | ld_H_A
  /-- `LD L,B` (R140) -/
  | ld_L_B
  /-- `LD L,C` (R140) -/
  | ld_L_C
  /-- `LD L,D` (R140) -/
  | ld_L_D
  /-- `LD L,E` (R140) -/
  | ld_L_E
  /-- `LD L,H` (R140) -/
  | ld_L_H
  /-- `LD L,L` (R140) -/
  | ld_L_L
  /-- `LD L,(HL)` (R141) -/
  | ld_L_atHL
  /-- `LD L,A` (R140) -/
  | ld_L_A
  /-- `LD (HL),B` (R142) -/
  | ld_atHL_B
  /-- `LD (HL),C` (R142) -/
  | ld_atHL_C
  /-- `LD (HL),D` (R142) -/
  | ld_atHL_D
  /-- `LD (HL),E` (R142) -/
  | ld_atHL_E
  /-- `LD (HL),H` (R142) -/
  | ld_atHL_H
  /-- `LD (HL),L` (R142) -/
  | ld_atHL_L
  /-- `LD (HL),A` (R142) -/
  | ld_atHL_A
  /-- `LD A,B` (R140) -/
  | ld_A_B
  /-- `LD A,C` (R140) -/
  | ld_A_C
  /-- `LD A,D` (R140) -/
  | ld_A_D
  /-- `LD A,E` (R140) -/
  | ld_A_E
  /-- `LD A,H` (R140) -/
  | ld_A_H
  /-- `LD A,L` (R140) -/
  | ld_A_L
  /-- `LD A,(HL)` (R141) -/
  | ld_A_atHL
  /-- `LD A,A` (R140) -/
  | ld_A_A
  /-- `LDH (n),A` (R155) -/
  | ldh_atn_A (n : Byte)
  /-- `LD (C),A` (R157) -/
  | ld_atC_A
  /-- `LD (nn),A` (R153) -/
  | ld_atnn_A (nn : Word)
  /-- `LDH A,(n)` (R156) -/
  | ldh_A_atn (n : Byte)
  /-- `LD A,(C)` (R158) -/
  | ld_A_atC
  /-- `LD SP,HL` (R161) -/
  | ld_SP_HL
  /-- `LD A,(nn)` (R154) -/
  | ld_A_atnn (nn : Word)
  -- 8-bit arithmetic and logic, 42_alu8.md
  /-- `INC B` (R187) -/
  | inc_B
  /-- `DEC B` (R189) -/
  | dec_B
  /-- `INC C` (R187) -/
  | inc_C
  /-- `DEC C` (R189) -/
  | dec_C
  /-- `INC D` (R187) -/
  | inc_D
  /-- `DEC D` (R189) -/
  | dec_D
  /-- `INC E` (R187) -/
  | inc_E
  /-- `DEC E` (R189) -/
  | dec_E
  /-- `INC H` (R187) -/
  | inc_H
  /-- `DEC H` (R189) -/
  | dec_H
  /-- `INC L` (R187) -/
  | inc_L
  /-- `DEC L` (R189) -/
  | dec_L
  /-- `INC (HL)` (R188) -/
  | inc_atHL
  /-- `DEC (HL)` (R190) -/
  | dec_atHL
  /-- `INC A` (R187) -/
  | inc_A
  /-- `DEC A` (R189) -/
  | dec_A
  /-- `ADD A,B` (R191) -/
  | add_A_B
  /-- `ADD A,C` (R191) -/
  | add_A_C
  /-- `ADD A,D` (R191) -/
  | add_A_D
  /-- `ADD A,E` (R191) -/
  | add_A_E
  /-- `ADD A,H` (R191) -/
  | add_A_H
  /-- `ADD A,L` (R191) -/
  | add_A_L
  /-- `ADD A,(HL)` (R192) -/
  | add_A_atHL
  /-- `ADD A,A` (R191) -/
  | add_A_A
  /-- `SUB B` (R194) -/
  | sub_B
  /-- `SUB C` (R194) -/
  | sub_C
  /-- `SUB D` (R194) -/
  | sub_D
  /-- `SUB E` (R194) -/
  | sub_E
  /-- `SUB H` (R194) -/
  | sub_H
  /-- `SUB L` (R194) -/
  | sub_L
  /-- `SUB (HL)` (R195) -/
  | sub_atHL
  /-- `SUB A` (R194) -/
  | sub_A
  /-- `SBC A,B` (R197) -/
  | sbc_A_B
  /-- `SBC A,C` (R197) -/
  | sbc_A_C
  /-- `SBC A,D` (R197) -/
  | sbc_A_D
  /-- `SBC A,E` (R197) -/
  | sbc_A_E
  /-- `SBC A,H` (R197) -/
  | sbc_A_H
  /-- `SBC A,L` (R197) -/
  | sbc_A_L
  /-- `SBC A,(HL)` (R198) -/
  | sbc_A_atHL
  /-- `SBC A,A` (R197) -/
  | sbc_A_A
  /-- `XOR B` (R200) -/
  | xor_B
  /-- `XOR C` (R200) -/
  | xor_C
  /-- `XOR D` (R200) -/
  | xor_D
  /-- `XOR E` (R200) -/
  | xor_E
  /-- `XOR H` (R200) -/
  | xor_H
  /-- `XOR L` (R200) -/
  | xor_L
  /-- `XOR (HL)` (R201) -/
  | xor_atHL
  /-- `XOR A` (R200) -/
  | xor_A
  /-- `CP B` (R203) -/
  | cp_B
  /-- `CP C` (R203) -/
  | cp_C
  /-- `CP D` (R203) -/
  | cp_D
  /-- `CP E` (R203) -/
  | cp_E
  /-- `CP H` (R203) -/
  | cp_H
  /-- `CP L` (R203) -/
  | cp_L
  /-- `CP (HL)` (R204) -/
  | cp_atHL
  /-- `CP A` (R203) -/
  | cp_A
  /-- `ADD A,n` (R193) -/
  | add_A_n (n : Byte)
  /-- `SUB n` (R196) -/
  | sub_n (n : Byte)
  /-- `SBC A,n` (R199) -/
  | sbc_A_n (n : Byte)
  /-- `XOR n` (R202) -/
  | xor_n (n : Byte)
  /-- `CP n` (R205) -/
  | cp_n (n : Byte)
  -- 16-bit arithmetic, 43_alu16.md
  /-- `INC BC` (R213) -/
  | inc_BC
  /-- `ADD HL,BC` (R212) -/
  | add_HL_BC
  /-- `DEC BC` (R214) -/
  | dec_BC
  /-- `INC DE` (R213) -/
  | inc_DE
  /-- `ADD HL,DE` (R212) -/
  | add_HL_DE
  /-- `DEC DE` (R214) -/
  | dec_DE
  /-- `INC HL` (R213) -/
  | inc_HL
  /-- `ADD HL,HL` (R212) -/
  | add_HL_HL
  /-- `DEC HL` (R214) -/
  | dec_HL
  /-- `INC SP` (R213) -/
  | inc_SP
  /-- `ADD HL,SP` (R212) -/
  | add_HL_SP
  /-- `DEC SP` (R214) -/
  | dec_SP
  -- Stack, control transfer and no-operation, 45_stack_control.md
  /-- `NOP` (R251) -/
  | nop
  /-- `JR e` (R246) -/
  | jr_e (e : Byte)
  /-- `JR NZ,e` (R247) -/
  | jr_NZ_e (e : Byte)
  /-- `JR Z,e` (R248) -/
  | jr_Z_e (e : Byte)
  /-- `POP BC` (R243) -/
  | pop_BC
  /-- `PUSH BC` (R242) -/
  | push_BC
  /-- `RET` (R250) -/
  | ret
  /-- `CALL nn` (R249) -/
  | call_nn (nn : Word)
  /-- `POP DE` (R243) -/
  | pop_DE
  /-- `PUSH DE` (R242) -/
  | push_DE
  /-- `POP HL` (R243) -/
  | pop_HL
  /-- `PUSH HL` (R242) -/
  | push_HL
  /-- `POP AF` (R244) -/
  | pop_AF
  /-- `PUSH AF` (R242) -/
  | push_AF
  -- The escape, 30_encoding.md
  /-- `PREFIX` (R93) -/
  | escape
  -- Rotates and bit test, 44_rotate_bit.md
  /-- `RLCA` (R225) -/
  | rlca
  /-- `RRCA` (R226) -/
  | rrca
  /-- `RLA` (R227) -/
  | rla
  /-- `RRA` (R228) -/
  | rra
  /-- `RLC B` (R229) -/
  | rlc_B
  /-- `RLC C` (R229) -/
  | rlc_C
  /-- `RLC D` (R229) -/
  | rlc_D
  /-- `RLC E` (R229) -/
  | rlc_E
  /-- `RLC H` (R229) -/
  | rlc_H
  /-- `RLC L` (R229) -/
  | rlc_L
  /-- `RLC (HL)` (R230) -/
  | rlc_atHL
  /-- `RLC A` (R229) -/
  | rlc_A
  /-- `RRC B` (R231) -/
  | rrc_B
  /-- `RRC C` (R231) -/
  | rrc_C
  /-- `RRC D` (R231) -/
  | rrc_D
  /-- `RRC E` (R231) -/
  | rrc_E
  /-- `RRC H` (R231) -/
  | rrc_H
  /-- `RRC L` (R231) -/
  | rrc_L
  /-- `RRC (HL)` (R232) -/
  | rrc_atHL
  /-- `RRC A` (R231) -/
  | rrc_A
  /-- `RL B` (R233) -/
  | rl_B
  /-- `RL C` (R233) -/
  | rl_C
  /-- `RL D` (R233) -/
  | rl_D
  /-- `RL E` (R233) -/
  | rl_E
  /-- `RL H` (R233) -/
  | rl_H
  /-- `RL L` (R233) -/
  | rl_L
  /-- `RL (HL)` (R234) -/
  | rl_atHL
  /-- `RL A` (R233) -/
  | rl_A
  /-- `RR B` (R235) -/
  | rr_B
  /-- `RR C` (R235) -/
  | rr_C
  /-- `RR D` (R235) -/
  | rr_D
  /-- `RR E` (R235) -/
  | rr_E
  /-- `RR H` (R235) -/
  | rr_H
  /-- `RR L` (R235) -/
  | rr_L
  /-- `RR (HL)` (R236) -/
  | rr_atHL
  /-- `RR A` (R235) -/
  | rr_A
  /-- `BIT 0,B` (R237) -/
  | bit_0_B
  /-- `BIT 0,C` (R237) -/
  | bit_0_C
  /-- `BIT 0,D` (R237) -/
  | bit_0_D
  /-- `BIT 0,E` (R237) -/
  | bit_0_E
  /-- `BIT 0,H` (R237) -/
  | bit_0_H
  /-- `BIT 0,L` (R237) -/
  | bit_0_L
  /-- `BIT 0,(HL)` (R238) -/
  | bit_0_atHL
  /-- `BIT 0,A` (R237) -/
  | bit_0_A
  /-- `BIT 1,B` (R237) -/
  | bit_1_B
  /-- `BIT 1,C` (R237) -/
  | bit_1_C
  /-- `BIT 1,D` (R237) -/
  | bit_1_D
  /-- `BIT 1,E` (R237) -/
  | bit_1_E
  /-- `BIT 1,H` (R237) -/
  | bit_1_H
  /-- `BIT 1,L` (R237) -/
  | bit_1_L
  /-- `BIT 1,(HL)` (R238) -/
  | bit_1_atHL
  /-- `BIT 1,A` (R237) -/
  | bit_1_A
  /-- `BIT 2,B` (R237) -/
  | bit_2_B
  /-- `BIT 2,C` (R237) -/
  | bit_2_C
  /-- `BIT 2,D` (R237) -/
  | bit_2_D
  /-- `BIT 2,E` (R237) -/
  | bit_2_E
  /-- `BIT 2,H` (R237) -/
  | bit_2_H
  /-- `BIT 2,L` (R237) -/
  | bit_2_L
  /-- `BIT 2,(HL)` (R238) -/
  | bit_2_atHL
  /-- `BIT 2,A` (R237) -/
  | bit_2_A
  /-- `BIT 3,B` (R237) -/
  | bit_3_B
  /-- `BIT 3,C` (R237) -/
  | bit_3_C
  /-- `BIT 3,D` (R237) -/
  | bit_3_D
  /-- `BIT 3,E` (R237) -/
  | bit_3_E
  /-- `BIT 3,H` (R237) -/
  | bit_3_H
  /-- `BIT 3,L` (R237) -/
  | bit_3_L
  /-- `BIT 3,(HL)` (R238) -/
  | bit_3_atHL
  /-- `BIT 3,A` (R237) -/
  | bit_3_A
  /-- `BIT 4,B` (R237) -/
  | bit_4_B
  /-- `BIT 4,C` (R237) -/
  | bit_4_C
  /-- `BIT 4,D` (R237) -/
  | bit_4_D
  /-- `BIT 4,E` (R237) -/
  | bit_4_E
  /-- `BIT 4,H` (R237) -/
  | bit_4_H
  /-- `BIT 4,L` (R237) -/
  | bit_4_L
  /-- `BIT 4,(HL)` (R238) -/
  | bit_4_atHL
  /-- `BIT 4,A` (R237) -/
  | bit_4_A
  /-- `BIT 5,B` (R237) -/
  | bit_5_B
  /-- `BIT 5,C` (R237) -/
  | bit_5_C
  /-- `BIT 5,D` (R237) -/
  | bit_5_D
  /-- `BIT 5,E` (R237) -/
  | bit_5_E
  /-- `BIT 5,H` (R237) -/
  | bit_5_H
  /-- `BIT 5,L` (R237) -/
  | bit_5_L
  /-- `BIT 5,(HL)` (R238) -/
  | bit_5_atHL
  /-- `BIT 5,A` (R237) -/
  | bit_5_A
  /-- `BIT 6,B` (R237) -/
  | bit_6_B
  /-- `BIT 6,C` (R237) -/
  | bit_6_C
  /-- `BIT 6,D` (R237) -/
  | bit_6_D
  /-- `BIT 6,E` (R237) -/
  | bit_6_E
  /-- `BIT 6,H` (R237) -/
  | bit_6_H
  /-- `BIT 6,L` (R237) -/
  | bit_6_L
  /-- `BIT 6,(HL)` (R238) -/
  | bit_6_atHL
  /-- `BIT 6,A` (R237) -/
  | bit_6_A
  /-- `BIT 7,B` (R237) -/
  | bit_7_B
  /-- `BIT 7,C` (R237) -/
  | bit_7_C
  /-- `BIT 7,D` (R237) -/
  | bit_7_D
  /-- `BIT 7,E` (R237) -/
  | bit_7_E
  /-- `BIT 7,H` (R237) -/
  | bit_7_H
  /-- `BIT 7,L` (R237) -/
  | bit_7_L
  /-- `BIT 7,(HL)` (R238) -/
  | bit_7_atHL
  /-- `BIT 7,A` (R237) -/
  | bit_7_A
deriving DecidableEq, Repr

end Sys2Proof
end

