-- ==== Sys2Proof/WellFormed.lean ====
section
/-! DEFINITION. Which terms of `Instr` are instructions. Operand widths are in the types, so one check is left. -/

namespace Sys2Proof

/-- Every constructor is an instruction at every operand value, but the escape: "decoding it never yields an instruction, it
redirects the lookup to the extended table" (30_encoding.md R93). -/
def Instr.wellFormed (i : Instr) : Bool := decide (i ≠ .escape)

/-- `wellFormed` as a proposition. -/
abbrev Instr.WellFormed (i : Instr) : Prop := i.wellFormed = true

end Sys2Proof
end

