-- ==== Sys2Proof/Decode.lean ====
section
/-! DEFINITION. The opcode decoder (30_encoding.md R90 to R104): byte helpers, the two opcode tables as the spec's grids, the
decoder on a list of bytes, and the encoder. -/

namespace Sys2Proof

/-- `w[7:0]` (00_scope.md R10). -/
def loByte (w : Word) : Byte := w.extractLsb' 0 8

/-- `w[15:8]` (R10). -/
def hiByte (w : Word) : Byte := w.extractLsb' 8 8

/-- `hi :: lo` (R10): concatenation, `hi` in the high bits. -/
def wordOf (hi lo : Byte) : Word := hi ++ lo

/-- `zext_16(v)` (30_encoding.md R100). -/
def zext16 (v : Byte) : Word := v.setWidth 16

/-- `sext_16(v)` (R100). -/
def sext16 (v : Byte) : Word := v.signExtend 16

/-- The register codes of 30_encoding.md R92. -/
def GReg.code : GReg → Nat
  | .b => 0 | .c => 1 | .d => 2 | .e => 3 | .h => 4 | .l => 5 | .a => 7

/-- The register codes of R92, 6 being `(HL)`. -/
def Loc.code : Loc → Nat
  | .r g => g.code
  | .atHL => 6

/-- The operand a register code names (R92). -/
def Loc.ofCode (z : BitVec 3) : Loc :=
  match z.toNat with
  | 0 => .r .b
  | 1 => .r .c
  | 2 => .r .d
  | 3 => .r .e
  | 4 => .r .h
  | 5 => .r .l
  | 6 => .atHL
  | _ => .r .a

/-- The pair codes `rp` of R92. -/
def Rp.code : Rp → Nat
  | .bc => 0 | .de => 1 | .hl => 2 | .sp => 3

/-- The pair codes `rp2` of R92. -/
def Pair.code : Pair → Nat
  | .bc => 0 | .de => 1 | .hl => 2 | .af => 3

/-- The rotate kinds of R92. -/
def Rot.code : Rot → Nat
  | .rlc => 0 | .rrc => 1 | .rl => 2 | .rr => 3

/-- The ALU operation codes of R92. -/
def AluOp.code : AluOp → Nat
  | .add => 0 | .sub => 2 | .sbc => 3 | .xor => 5 | .cp => 7

/-- What a table entry still needs to become an instruction (the formats of R91): nothing, an immediate byte, a displacement
byte, or a word. An extended entry needs nothing. -/
inductive Form where
  | op (i : Instr)
  | opN (mk : Byte → Instr)
  | opE (mk : Byte → Instr)
  | opNN (mk : Word → Instr)

/-- A table entry: its mnemonic, as the table writes it with operand placeholders (R103), and its form. -/
structure Entry where
  mnemonic : String
  form     : Form

/-- A cell of the primary grid (R95): absent (R97), the escape opcode (R93), or an entry. -/
inductive PrimaryCell where
  | absent
  | escape
  | entry (e : Entry)

/-- Row `0x` of the primary grid (R95). -/
def primaryRow0 : List PrimaryCell := [
  .entry ⟨"NOP", .op .nop⟩, .entry ⟨"LD BC,nn", .opNN .ld_BC_nn⟩, .entry ⟨"LD (BC),A", .op .ld_atBC_A⟩, .entry ⟨"INC BC", .op .inc_BC⟩,
  .entry ⟨"INC B", .op .inc_B⟩, .entry ⟨"DEC B", .op .dec_B⟩, .entry ⟨"LD B,n", .opN .ld_B_n⟩, .entry ⟨"RLCA", .op .rlca⟩,
  .entry ⟨"LD (nn),SP", .opNN .ld_atnn_SP⟩, .entry ⟨"ADD HL,BC", .op .add_HL_BC⟩, .entry ⟨"LD A,(BC)", .op .ld_A_atBC⟩, .entry ⟨"DEC BC", .op .dec_BC⟩,
  .entry ⟨"INC C", .op .inc_C⟩, .entry ⟨"DEC C", .op .dec_C⟩, .entry ⟨"LD C,n", .opN .ld_C_n⟩, .entry ⟨"RRCA", .op .rrca⟩]

/-- Row `1x` of the primary grid (R95). -/
def primaryRow1 : List PrimaryCell := [
  .absent, .entry ⟨"LD DE,nn", .opNN .ld_DE_nn⟩, .entry ⟨"LD (DE),A", .op .ld_atDE_A⟩, .entry ⟨"INC DE", .op .inc_DE⟩,
  .entry ⟨"INC D", .op .inc_D⟩, .entry ⟨"DEC D", .op .dec_D⟩, .entry ⟨"LD D,n", .opN .ld_D_n⟩, .entry ⟨"RLA", .op .rla⟩,
  .entry ⟨"JR e", .opE .jr_e⟩, .entry ⟨"ADD HL,DE", .op .add_HL_DE⟩, .entry ⟨"LD A,(DE)", .op .ld_A_atDE⟩, .entry ⟨"DEC DE", .op .dec_DE⟩,
  .entry ⟨"INC E", .op .inc_E⟩, .entry ⟨"DEC E", .op .dec_E⟩, .entry ⟨"LD E,n", .opN .ld_E_n⟩, .entry ⟨"RRA", .op .rra⟩]

/-- Row `2x` of the primary grid (R95). -/
def primaryRow2 : List PrimaryCell := [
  .entry ⟨"JR NZ,e", .opE .jr_NZ_e⟩, .entry ⟨"LD HL,nn", .opNN .ld_HL_nn⟩, .entry ⟨"LD (HL+),A", .op .ld_atHLplus_A⟩, .entry ⟨"INC HL", .op .inc_HL⟩,
  .entry ⟨"INC H", .op .inc_H⟩, .entry ⟨"DEC H", .op .dec_H⟩, .entry ⟨"LD H,n", .opN .ld_H_n⟩, .absent,
  .entry ⟨"JR Z,e", .opE .jr_Z_e⟩, .entry ⟨"ADD HL,HL", .op .add_HL_HL⟩, .entry ⟨"LD A,(HL+)", .op .ld_A_atHLplus⟩, .entry ⟨"DEC HL", .op .dec_HL⟩,
  .entry ⟨"INC L", .op .inc_L⟩, .entry ⟨"DEC L", .op .dec_L⟩, .entry ⟨"LD L,n", .opN .ld_L_n⟩, .absent]

/-- Row `3x` of the primary grid (R95). -/
def primaryRow3 : List PrimaryCell := [
  .absent, .entry ⟨"LD SP,nn", .opNN .ld_SP_nn⟩, .entry ⟨"LD (HL-),A", .op .ld_atHLminus_A⟩, .entry ⟨"INC SP", .op .inc_SP⟩,
  .entry ⟨"INC (HL)", .op .inc_atHL⟩, .entry ⟨"DEC (HL)", .op .dec_atHL⟩, .entry ⟨"LD (HL),n", .opN .ld_atHL_n⟩, .absent,
  .absent, .entry ⟨"ADD HL,SP", .op .add_HL_SP⟩, .entry ⟨"LD A,(HL-)", .op .ld_A_atHLminus⟩, .entry ⟨"DEC SP", .op .dec_SP⟩,
  .entry ⟨"INC A", .op .inc_A⟩, .entry ⟨"DEC A", .op .dec_A⟩, .entry ⟨"LD A,n", .opN .ld_A_n⟩, .absent]

/-- Row `4x` of the primary grid (R95). -/
def primaryRow4 : List PrimaryCell := [
  .entry ⟨"LD B,B", .op .ld_B_B⟩, .entry ⟨"LD B,C", .op .ld_B_C⟩, .entry ⟨"LD B,D", .op .ld_B_D⟩, .entry ⟨"LD B,E", .op .ld_B_E⟩,
  .entry ⟨"LD B,H", .op .ld_B_H⟩, .entry ⟨"LD B,L", .op .ld_B_L⟩, .entry ⟨"LD B,(HL)", .op .ld_B_atHL⟩, .entry ⟨"LD B,A", .op .ld_B_A⟩,
  .entry ⟨"LD C,B", .op .ld_C_B⟩, .entry ⟨"LD C,C", .op .ld_C_C⟩, .entry ⟨"LD C,D", .op .ld_C_D⟩, .entry ⟨"LD C,E", .op .ld_C_E⟩,
  .entry ⟨"LD C,H", .op .ld_C_H⟩, .entry ⟨"LD C,L", .op .ld_C_L⟩, .entry ⟨"LD C,(HL)", .op .ld_C_atHL⟩, .entry ⟨"LD C,A", .op .ld_C_A⟩]

/-- Row `5x` of the primary grid (R95). -/
def primaryRow5 : List PrimaryCell := [
  .entry ⟨"LD D,B", .op .ld_D_B⟩, .entry ⟨"LD D,C", .op .ld_D_C⟩, .entry ⟨"LD D,D", .op .ld_D_D⟩, .entry ⟨"LD D,E", .op .ld_D_E⟩,
  .entry ⟨"LD D,H", .op .ld_D_H⟩, .entry ⟨"LD D,L", .op .ld_D_L⟩, .entry ⟨"LD D,(HL)", .op .ld_D_atHL⟩, .entry ⟨"LD D,A", .op .ld_D_A⟩,
  .entry ⟨"LD E,B", .op .ld_E_B⟩, .entry ⟨"LD E,C", .op .ld_E_C⟩, .entry ⟨"LD E,D", .op .ld_E_D⟩, .entry ⟨"LD E,E", .op .ld_E_E⟩,
  .entry ⟨"LD E,H", .op .ld_E_H⟩, .entry ⟨"LD E,L", .op .ld_E_L⟩, .entry ⟨"LD E,(HL)", .op .ld_E_atHL⟩, .entry ⟨"LD E,A", .op .ld_E_A⟩]

/-- Row `6x` of the primary grid (R95). -/
def primaryRow6 : List PrimaryCell := [
  .entry ⟨"LD H,B", .op .ld_H_B⟩, .entry ⟨"LD H,C", .op .ld_H_C⟩, .entry ⟨"LD H,D", .op .ld_H_D⟩, .entry ⟨"LD H,E", .op .ld_H_E⟩,
  .entry ⟨"LD H,H", .op .ld_H_H⟩, .entry ⟨"LD H,L", .op .ld_H_L⟩, .entry ⟨"LD H,(HL)", .op .ld_H_atHL⟩, .entry ⟨"LD H,A", .op .ld_H_A⟩,
  .entry ⟨"LD L,B", .op .ld_L_B⟩, .entry ⟨"LD L,C", .op .ld_L_C⟩, .entry ⟨"LD L,D", .op .ld_L_D⟩, .entry ⟨"LD L,E", .op .ld_L_E⟩,
  .entry ⟨"LD L,H", .op .ld_L_H⟩, .entry ⟨"LD L,L", .op .ld_L_L⟩, .entry ⟨"LD L,(HL)", .op .ld_L_atHL⟩, .entry ⟨"LD L,A", .op .ld_L_A⟩]

/-- Row `7x` of the primary grid (R95). -/
def primaryRow7 : List PrimaryCell := [
  .entry ⟨"LD (HL),B", .op .ld_atHL_B⟩, .entry ⟨"LD (HL),C", .op .ld_atHL_C⟩, .entry ⟨"LD (HL),D", .op .ld_atHL_D⟩, .entry ⟨"LD (HL),E", .op .ld_atHL_E⟩,
  .entry ⟨"LD (HL),H", .op .ld_atHL_H⟩, .entry ⟨"LD (HL),L", .op .ld_atHL_L⟩, .absent, .entry ⟨"LD (HL),A", .op .ld_atHL_A⟩,
  .entry ⟨"LD A,B", .op .ld_A_B⟩, .entry ⟨"LD A,C", .op .ld_A_C⟩, .entry ⟨"LD A,D", .op .ld_A_D⟩, .entry ⟨"LD A,E", .op .ld_A_E⟩,
  .entry ⟨"LD A,H", .op .ld_A_H⟩, .entry ⟨"LD A,L", .op .ld_A_L⟩, .entry ⟨"LD A,(HL)", .op .ld_A_atHL⟩, .entry ⟨"LD A,A", .op .ld_A_A⟩]

/-- Row `8x` of the primary grid (R95). -/
def primaryRow8 : List PrimaryCell := [
  .entry ⟨"ADD A,B", .op .add_A_B⟩, .entry ⟨"ADD A,C", .op .add_A_C⟩, .entry ⟨"ADD A,D", .op .add_A_D⟩, .entry ⟨"ADD A,E", .op .add_A_E⟩,
  .entry ⟨"ADD A,H", .op .add_A_H⟩, .entry ⟨"ADD A,L", .op .add_A_L⟩, .entry ⟨"ADD A,(HL)", .op .add_A_atHL⟩, .entry ⟨"ADD A,A", .op .add_A_A⟩,
  .absent, .absent, .absent, .absent,
  .absent, .absent, .absent, .absent]

/-- Row `9x` of the primary grid (R95). -/
def primaryRow9 : List PrimaryCell := [
  .entry ⟨"SUB B", .op .sub_B⟩, .entry ⟨"SUB C", .op .sub_C⟩, .entry ⟨"SUB D", .op .sub_D⟩, .entry ⟨"SUB E", .op .sub_E⟩,
  .entry ⟨"SUB H", .op .sub_H⟩, .entry ⟨"SUB L", .op .sub_L⟩, .entry ⟨"SUB (HL)", .op .sub_atHL⟩, .entry ⟨"SUB A", .op .sub_A⟩,
  .entry ⟨"SBC A,B", .op .sbc_A_B⟩, .entry ⟨"SBC A,C", .op .sbc_A_C⟩, .entry ⟨"SBC A,D", .op .sbc_A_D⟩, .entry ⟨"SBC A,E", .op .sbc_A_E⟩,
  .entry ⟨"SBC A,H", .op .sbc_A_H⟩, .entry ⟨"SBC A,L", .op .sbc_A_L⟩, .entry ⟨"SBC A,(HL)", .op .sbc_A_atHL⟩, .entry ⟨"SBC A,A", .op .sbc_A_A⟩]

/-- Row `Ax` of the primary grid (R95). -/
def primaryRowA : List PrimaryCell := [
  .absent, .absent, .absent, .absent,
  .absent, .absent, .absent, .absent,
  .entry ⟨"XOR B", .op .xor_B⟩, .entry ⟨"XOR C", .op .xor_C⟩, .entry ⟨"XOR D", .op .xor_D⟩, .entry ⟨"XOR E", .op .xor_E⟩,
  .entry ⟨"XOR H", .op .xor_H⟩, .entry ⟨"XOR L", .op .xor_L⟩, .entry ⟨"XOR (HL)", .op .xor_atHL⟩, .entry ⟨"XOR A", .op .xor_A⟩]

/-- Row `Bx` of the primary grid (R95). -/
def primaryRowB : List PrimaryCell := [
  .absent, .absent, .absent, .absent,
  .absent, .absent, .absent, .absent,
  .entry ⟨"CP B", .op .cp_B⟩, .entry ⟨"CP C", .op .cp_C⟩, .entry ⟨"CP D", .op .cp_D⟩, .entry ⟨"CP E", .op .cp_E⟩,
  .entry ⟨"CP H", .op .cp_H⟩, .entry ⟨"CP L", .op .cp_L⟩, .entry ⟨"CP (HL)", .op .cp_atHL⟩, .entry ⟨"CP A", .op .cp_A⟩]

/-- Row `Cx` of the primary grid (R95). -/
def primaryRowC : List PrimaryCell := [
  .absent, .entry ⟨"POP BC", .op .pop_BC⟩, .absent, .absent,
  .absent, .entry ⟨"PUSH BC", .op .push_BC⟩, .entry ⟨"ADD A,n", .opN .add_A_n⟩, .absent,
  .absent, .entry ⟨"RET", .op .ret⟩, .absent, .escape,
  .absent, .entry ⟨"CALL nn", .opNN .call_nn⟩, .absent, .absent]

/-- Row `Dx` of the primary grid (R95). -/
def primaryRowD : List PrimaryCell := [
  .absent, .entry ⟨"POP DE", .op .pop_DE⟩, .absent, .absent,
  .absent, .entry ⟨"PUSH DE", .op .push_DE⟩, .entry ⟨"SUB n", .opN .sub_n⟩, .absent,
  .absent, .absent, .absent, .absent,
  .absent, .absent, .entry ⟨"SBC A,n", .opN .sbc_A_n⟩, .absent]

/-- Row `Ex` of the primary grid (R95). -/
def primaryRowE : List PrimaryCell := [
  .entry ⟨"LDH (n),A", .opN .ldh_atn_A⟩, .entry ⟨"POP HL", .op .pop_HL⟩, .entry ⟨"LD (C),A", .op .ld_atC_A⟩, .absent,
  .absent, .entry ⟨"PUSH HL", .op .push_HL⟩, .absent, .absent,
  .absent, .absent, .entry ⟨"LD (nn),A", .opNN .ld_atnn_A⟩, .absent,
  .absent, .absent, .entry ⟨"XOR n", .opN .xor_n⟩, .absent]

/-- Row `Fx` of the primary grid (R95). -/
def primaryRowF : List PrimaryCell := [
  .entry ⟨"LDH A,(n)", .opN .ldh_A_atn⟩, .entry ⟨"POP AF", .op .pop_AF⟩, .entry ⟨"LD A,(C)", .op .ld_A_atC⟩, .absent,
  .absent, .entry ⟨"PUSH AF", .op .push_AF⟩, .absent, .absent,
  .absent, .entry ⟨"LD SP,HL", .op .ld_SP_HL⟩, .entry ⟨"LD A,(nn)", .opNN .ld_A_atnn⟩, .absent,
  .absent, .absent, .entry ⟨"CP n", .opN .cp_n⟩, .absent]

/-- The primary table `T0_PRIMARY` as the grid of R95: sixteen rows of sixteen cells. -/
def primaryGrid : List (List PrimaryCell) :=
  [primaryRow0, primaryRow1, primaryRow2, primaryRow3, primaryRow4, primaryRow5, primaryRow6, primaryRow7,
   primaryRow8, primaryRow9, primaryRowA, primaryRowB, primaryRowC, primaryRowD, primaryRowE, primaryRowF]

/-- Extended bytes `00` to `0F` (R96). -/
def extendedRow0 : List (Option Entry) := [
  some ⟨"RLC B", .op .rlc_B⟩, some ⟨"RLC C", .op .rlc_C⟩, some ⟨"RLC D", .op .rlc_D⟩, some ⟨"RLC E", .op .rlc_E⟩,
  some ⟨"RLC H", .op .rlc_H⟩, some ⟨"RLC L", .op .rlc_L⟩, some ⟨"RLC (HL)", .op .rlc_atHL⟩, some ⟨"RLC A", .op .rlc_A⟩,
  some ⟨"RRC B", .op .rrc_B⟩, some ⟨"RRC C", .op .rrc_C⟩, some ⟨"RRC D", .op .rrc_D⟩, some ⟨"RRC E", .op .rrc_E⟩,
  some ⟨"RRC H", .op .rrc_H⟩, some ⟨"RRC L", .op .rrc_L⟩, some ⟨"RRC (HL)", .op .rrc_atHL⟩, some ⟨"RRC A", .op .rrc_A⟩]

/-- Extended bytes `10` to `1F` (R96). -/
def extendedRow1 : List (Option Entry) := [
  some ⟨"RL B", .op .rl_B⟩, some ⟨"RL C", .op .rl_C⟩, some ⟨"RL D", .op .rl_D⟩, some ⟨"RL E", .op .rl_E⟩,
  some ⟨"RL H", .op .rl_H⟩, some ⟨"RL L", .op .rl_L⟩, some ⟨"RL (HL)", .op .rl_atHL⟩, some ⟨"RL A", .op .rl_A⟩,
  some ⟨"RR B", .op .rr_B⟩, some ⟨"RR C", .op .rr_C⟩, some ⟨"RR D", .op .rr_D⟩, some ⟨"RR E", .op .rr_E⟩,
  some ⟨"RR H", .op .rr_H⟩, some ⟨"RR L", .op .rr_L⟩, some ⟨"RR (HL)", .op .rr_atHL⟩, some ⟨"RR A", .op .rr_A⟩]

/-- Extended bytes `40` to `4F` (R96). -/
def extendedRow4 : List (Option Entry) := [
  some ⟨"BIT 0,B", .op .bit_0_B⟩, some ⟨"BIT 0,C", .op .bit_0_C⟩, some ⟨"BIT 0,D", .op .bit_0_D⟩, some ⟨"BIT 0,E", .op .bit_0_E⟩,
  some ⟨"BIT 0,H", .op .bit_0_H⟩, some ⟨"BIT 0,L", .op .bit_0_L⟩, some ⟨"BIT 0,(HL)", .op .bit_0_atHL⟩, some ⟨"BIT 0,A", .op .bit_0_A⟩,
  some ⟨"BIT 1,B", .op .bit_1_B⟩, some ⟨"BIT 1,C", .op .bit_1_C⟩, some ⟨"BIT 1,D", .op .bit_1_D⟩, some ⟨"BIT 1,E", .op .bit_1_E⟩,
  some ⟨"BIT 1,H", .op .bit_1_H⟩, some ⟨"BIT 1,L", .op .bit_1_L⟩, some ⟨"BIT 1,(HL)", .op .bit_1_atHL⟩, some ⟨"BIT 1,A", .op .bit_1_A⟩]

/-- Extended bytes `50` to `5F` (R96). -/
def extendedRow5 : List (Option Entry) := [
  some ⟨"BIT 2,B", .op .bit_2_B⟩, some ⟨"BIT 2,C", .op .bit_2_C⟩, some ⟨"BIT 2,D", .op .bit_2_D⟩, some ⟨"BIT 2,E", .op .bit_2_E⟩,
  some ⟨"BIT 2,H", .op .bit_2_H⟩, some ⟨"BIT 2,L", .op .bit_2_L⟩, some ⟨"BIT 2,(HL)", .op .bit_2_atHL⟩, some ⟨"BIT 2,A", .op .bit_2_A⟩,
  some ⟨"BIT 3,B", .op .bit_3_B⟩, some ⟨"BIT 3,C", .op .bit_3_C⟩, some ⟨"BIT 3,D", .op .bit_3_D⟩, some ⟨"BIT 3,E", .op .bit_3_E⟩,
  some ⟨"BIT 3,H", .op .bit_3_H⟩, some ⟨"BIT 3,L", .op .bit_3_L⟩, some ⟨"BIT 3,(HL)", .op .bit_3_atHL⟩, some ⟨"BIT 3,A", .op .bit_3_A⟩]

/-- Extended bytes `60` to `6F` (R96). -/
def extendedRow6 : List (Option Entry) := [
  some ⟨"BIT 4,B", .op .bit_4_B⟩, some ⟨"BIT 4,C", .op .bit_4_C⟩, some ⟨"BIT 4,D", .op .bit_4_D⟩, some ⟨"BIT 4,E", .op .bit_4_E⟩,
  some ⟨"BIT 4,H", .op .bit_4_H⟩, some ⟨"BIT 4,L", .op .bit_4_L⟩, some ⟨"BIT 4,(HL)", .op .bit_4_atHL⟩, some ⟨"BIT 4,A", .op .bit_4_A⟩,
  some ⟨"BIT 5,B", .op .bit_5_B⟩, some ⟨"BIT 5,C", .op .bit_5_C⟩, some ⟨"BIT 5,D", .op .bit_5_D⟩, some ⟨"BIT 5,E", .op .bit_5_E⟩,
  some ⟨"BIT 5,H", .op .bit_5_H⟩, some ⟨"BIT 5,L", .op .bit_5_L⟩, some ⟨"BIT 5,(HL)", .op .bit_5_atHL⟩, some ⟨"BIT 5,A", .op .bit_5_A⟩]

/-- Extended bytes `70` to `7F` (R96). -/
def extendedRow7 : List (Option Entry) := [
  some ⟨"BIT 6,B", .op .bit_6_B⟩, some ⟨"BIT 6,C", .op .bit_6_C⟩, some ⟨"BIT 6,D", .op .bit_6_D⟩, some ⟨"BIT 6,E", .op .bit_6_E⟩,
  some ⟨"BIT 6,H", .op .bit_6_H⟩, some ⟨"BIT 6,L", .op .bit_6_L⟩, some ⟨"BIT 6,(HL)", .op .bit_6_atHL⟩, some ⟨"BIT 6,A", .op .bit_6_A⟩,
  some ⟨"BIT 7,B", .op .bit_7_B⟩, some ⟨"BIT 7,C", .op .bit_7_C⟩, some ⟨"BIT 7,D", .op .bit_7_D⟩, some ⟨"BIT 7,E", .op .bit_7_E⟩,
  some ⟨"BIT 7,H", .op .bit_7_H⟩, some ⟨"BIT 7,L", .op .bit_7_L⟩, some ⟨"BIT 7,(HL)", .op .bit_7_atHL⟩, some ⟨"BIT 7,A", .op .bit_7_A⟩]

/-- The extended table `T0_EXTENDED` (R96): rows 0, 1 and 4 to 7 have entries, the other 160 values are absent. -/
def extendedGrid : List (List (Option Entry)) :=
  [extendedRow0, extendedRow1, [], [], extendedRow4, extendedRow5, extendedRow6, extendedRow7]

/-- The primary table at a byte (R94, R95). -/
def primaryCell (b : Byte) : PrimaryCell :=
  match primaryGrid[b.toNat / 16]? with
  | none => .absent
  | some row => (row[b.toNat % 16]?).getD .absent

/-- The extended table at a byte, `none` where it is absent (R94, R96). -/
def extendedEntry (b : Byte) : Option Entry :=
  match extendedGrid[b.toNat / 16]? with
  | none => none
  | some row => (row[b.toNat % 16]?).getD none

/-- What decoding a list of bytes gives: an instruction and the bytes after it, the fault `UnimplementedOpcode` of R94 by its
fields, or too few bytes. -/
inductive Decoded where
  | instr (i : Instr) (rest : List Byte)
  | unimplementedOpcode (opcode : Byte) (isExtended : Bool)
  | truncated
deriving DecidableEq, Repr

/-- The operand bytes of a form: the immediate, the displacement, or the word with its low byte first (R91, R100). -/
def decodeOperands : Form → List Byte → Decoded
  | .op i, rest => .instr i rest
  | .opN mk, n :: rest => .instr (mk n) rest
  | .opE mk, e :: rest => .instr (mk e) rest
  | .opNN mk, lo :: hi :: rest => .instr (mk (wordOf hi lo)) rest
  | .opN _, [] => .truncated
  | .opE _, [] => .truncated
  | .opNN _, [] => .truncated
  | .opNN _, [_] => .truncated

/-- Decoding after the escape byte (R94): the next byte is looked up in the extended table. -/
def decodeExtended : List Byte → Decoded
  | [] => .truncated
  | b1 :: rest =>
    match extendedEntry b1 with
    | none => .unimplementedOpcode b1 true
    | some e => decodeOperands e.form rest

/-- The decoder (R94, R102), total on any bytes: an absent byte is rejected by its value and table. -/
def decode : List Byte → Decoded
  | [] => .truncated
  | b0 :: rest =>
    match primaryCell b0 with
    | .absent => .unimplementedOpcode b0 false
    | .escape => decodeExtended rest
    | .entry e => decodeOperands e.form rest

/-- The bytes of an instruction in address order, from the byte values and formats of R91, R95 and R96. The escape is its one
byte, the row's (R104). -/
def encode : Instr → List Byte
  | .ld_BC_nn nn => [0x01#8, loByte nn, hiByte nn]
  | .ld_atBC_A => [0x02#8]
  | .ld_B_n n => [0x06#8, n]
  | .ld_atnn_SP nn => [0x08#8, loByte nn, hiByte nn]
  | .ld_A_atBC => [0x0A#8]
  | .ld_C_n n => [0x0E#8, n]
  | .ld_DE_nn nn => [0x11#8, loByte nn, hiByte nn]
  | .ld_atDE_A => [0x12#8]
  | .ld_D_n n => [0x16#8, n]
  | .ld_A_atDE => [0x1A#8]
  | .ld_E_n n => [0x1E#8, n]
  | .ld_HL_nn nn => [0x21#8, loByte nn, hiByte nn]
  | .ld_atHLplus_A => [0x22#8]
  | .ld_H_n n => [0x26#8, n]
  | .ld_A_atHLplus => [0x2A#8]
  | .ld_L_n n => [0x2E#8, n]
  | .ld_SP_nn nn => [0x31#8, loByte nn, hiByte nn]
  | .ld_atHLminus_A => [0x32#8]
  | .ld_atHL_n n => [0x36#8, n]
  | .ld_A_atHLminus => [0x3A#8]
  | .ld_A_n n => [0x3E#8, n]
  | .ld_B_B => [0x40#8]
  | .ld_B_C => [0x41#8]
  | .ld_B_D => [0x42#8]
  | .ld_B_E => [0x43#8]
  | .ld_B_H => [0x44#8]
  | .ld_B_L => [0x45#8]
  | .ld_B_atHL => [0x46#8]
  | .ld_B_A => [0x47#8]
  | .ld_C_B => [0x48#8]
  | .ld_C_C => [0x49#8]
  | .ld_C_D => [0x4A#8]
  | .ld_C_E => [0x4B#8]
  | .ld_C_H => [0x4C#8]
  | .ld_C_L => [0x4D#8]
  | .ld_C_atHL => [0x4E#8]
  | .ld_C_A => [0x4F#8]
  | .ld_D_B => [0x50#8]
  | .ld_D_C => [0x51#8]
  | .ld_D_D => [0x52#8]
  | .ld_D_E => [0x53#8]
  | .ld_D_H => [0x54#8]
  | .ld_D_L => [0x55#8]
  | .ld_D_atHL => [0x56#8]
  | .ld_D_A => [0x57#8]
  | .ld_E_B => [0x58#8]
  | .ld_E_C => [0x59#8]
  | .ld_E_D => [0x5A#8]
  | .ld_E_E => [0x5B#8]
  | .ld_E_H => [0x5C#8]
  | .ld_E_L => [0x5D#8]
  | .ld_E_atHL => [0x5E#8]
  | .ld_E_A => [0x5F#8]
  | .ld_H_B => [0x60#8]
  | .ld_H_C => [0x61#8]
  | .ld_H_D => [0x62#8]
  | .ld_H_E => [0x63#8]
  | .ld_H_H => [0x64#8]
  | .ld_H_L => [0x65#8]
  | .ld_H_atHL => [0x66#8]
  | .ld_H_A => [0x67#8]
  | .ld_L_B => [0x68#8]
  | .ld_L_C => [0x69#8]
  | .ld_L_D => [0x6A#8]
  | .ld_L_E => [0x6B#8]
  | .ld_L_H => [0x6C#8]
  | .ld_L_L => [0x6D#8]
  | .ld_L_atHL => [0x6E#8]
  | .ld_L_A => [0x6F#8]
  | .ld_atHL_B => [0x70#8]
  | .ld_atHL_C => [0x71#8]
  | .ld_atHL_D => [0x72#8]
  | .ld_atHL_E => [0x73#8]
  | .ld_atHL_H => [0x74#8]
  | .ld_atHL_L => [0x75#8]
  | .ld_atHL_A => [0x77#8]
  | .ld_A_B => [0x78#8]
  | .ld_A_C => [0x79#8]
  | .ld_A_D => [0x7A#8]
  | .ld_A_E => [0x7B#8]
  | .ld_A_H => [0x7C#8]
  | .ld_A_L => [0x7D#8]
  | .ld_A_atHL => [0x7E#8]
  | .ld_A_A => [0x7F#8]
  | .ldh_atn_A n => [0xE0#8, n]
  | .ld_atC_A => [0xE2#8]
  | .ld_atnn_A nn => [0xEA#8, loByte nn, hiByte nn]
  | .ldh_A_atn n => [0xF0#8, n]
  | .ld_A_atC => [0xF2#8]
  | .ld_SP_HL => [0xF9#8]
  | .ld_A_atnn nn => [0xFA#8, loByte nn, hiByte nn]
  | .inc_B => [0x04#8]
  | .dec_B => [0x05#8]
  | .inc_C => [0x0C#8]
  | .dec_C => [0x0D#8]
  | .inc_D => [0x14#8]
  | .dec_D => [0x15#8]
  | .inc_E => [0x1C#8]
  | .dec_E => [0x1D#8]
  | .inc_H => [0x24#8]
  | .dec_H => [0x25#8]
  | .inc_L => [0x2C#8]
  | .dec_L => [0x2D#8]
  | .inc_atHL => [0x34#8]
  | .dec_atHL => [0x35#8]
  | .inc_A => [0x3C#8]
  | .dec_A => [0x3D#8]
  | .add_A_B => [0x80#8]
  | .add_A_C => [0x81#8]
  | .add_A_D => [0x82#8]
  | .add_A_E => [0x83#8]
  | .add_A_H => [0x84#8]
  | .add_A_L => [0x85#8]
  | .add_A_atHL => [0x86#8]
  | .add_A_A => [0x87#8]
  | .sub_B => [0x90#8]
  | .sub_C => [0x91#8]
  | .sub_D => [0x92#8]
  | .sub_E => [0x93#8]
  | .sub_H => [0x94#8]
  | .sub_L => [0x95#8]
  | .sub_atHL => [0x96#8]
  | .sub_A => [0x97#8]
  | .sbc_A_B => [0x98#8]
  | .sbc_A_C => [0x99#8]
  | .sbc_A_D => [0x9A#8]
  | .sbc_A_E => [0x9B#8]
  | .sbc_A_H => [0x9C#8]
  | .sbc_A_L => [0x9D#8]
  | .sbc_A_atHL => [0x9E#8]
  | .sbc_A_A => [0x9F#8]
  | .xor_B => [0xA8#8]
  | .xor_C => [0xA9#8]
  | .xor_D => [0xAA#8]
  | .xor_E => [0xAB#8]
  | .xor_H => [0xAC#8]
  | .xor_L => [0xAD#8]
  | .xor_atHL => [0xAE#8]
  | .xor_A => [0xAF#8]
  | .cp_B => [0xB8#8]
  | .cp_C => [0xB9#8]
  | .cp_D => [0xBA#8]
  | .cp_E => [0xBB#8]
  | .cp_H => [0xBC#8]
  | .cp_L => [0xBD#8]
  | .cp_atHL => [0xBE#8]
  | .cp_A => [0xBF#8]
  | .add_A_n n => [0xC6#8, n]
  | .sub_n n => [0xD6#8, n]
  | .sbc_A_n n => [0xDE#8, n]
  | .xor_n n => [0xEE#8, n]
  | .cp_n n => [0xFE#8, n]
  | .inc_BC => [0x03#8]
  | .add_HL_BC => [0x09#8]
  | .dec_BC => [0x0B#8]
  | .inc_DE => [0x13#8]
  | .add_HL_DE => [0x19#8]
  | .dec_DE => [0x1B#8]
  | .inc_HL => [0x23#8]
  | .add_HL_HL => [0x29#8]
  | .dec_HL => [0x2B#8]
  | .inc_SP => [0x33#8]
  | .add_HL_SP => [0x39#8]
  | .dec_SP => [0x3B#8]
  | .nop => [0x00#8]
  | .jr_e e => [0x18#8, e]
  | .jr_NZ_e e => [0x20#8, e]
  | .jr_Z_e e => [0x28#8, e]
  | .pop_BC => [0xC1#8]
  | .push_BC => [0xC5#8]
  | .ret => [0xC9#8]
  | .call_nn nn => [0xCD#8, loByte nn, hiByte nn]
  | .pop_DE => [0xD1#8]
  | .push_DE => [0xD5#8]
  | .pop_HL => [0xE1#8]
  | .push_HL => [0xE5#8]
  | .pop_AF => [0xF1#8]
  | .push_AF => [0xF5#8]
  | .escape => [0xCB#8]
  | .rlca => [0x07#8]
  | .rrca => [0x0F#8]
  | .rla => [0x17#8]
  | .rra => [0x1F#8]
  | .rlc_B => [0xCB#8, 0x00#8]
  | .rlc_C => [0xCB#8, 0x01#8]
  | .rlc_D => [0xCB#8, 0x02#8]
  | .rlc_E => [0xCB#8, 0x03#8]
  | .rlc_H => [0xCB#8, 0x04#8]
  | .rlc_L => [0xCB#8, 0x05#8]
  | .rlc_atHL => [0xCB#8, 0x06#8]
  | .rlc_A => [0xCB#8, 0x07#8]
  | .rrc_B => [0xCB#8, 0x08#8]
  | .rrc_C => [0xCB#8, 0x09#8]
  | .rrc_D => [0xCB#8, 0x0A#8]
  | .rrc_E => [0xCB#8, 0x0B#8]
  | .rrc_H => [0xCB#8, 0x0C#8]
  | .rrc_L => [0xCB#8, 0x0D#8]
  | .rrc_atHL => [0xCB#8, 0x0E#8]
  | .rrc_A => [0xCB#8, 0x0F#8]
  | .rl_B => [0xCB#8, 0x10#8]
  | .rl_C => [0xCB#8, 0x11#8]
  | .rl_D => [0xCB#8, 0x12#8]
  | .rl_E => [0xCB#8, 0x13#8]
  | .rl_H => [0xCB#8, 0x14#8]
  | .rl_L => [0xCB#8, 0x15#8]
  | .rl_atHL => [0xCB#8, 0x16#8]
  | .rl_A => [0xCB#8, 0x17#8]
  | .rr_B => [0xCB#8, 0x18#8]
  | .rr_C => [0xCB#8, 0x19#8]
  | .rr_D => [0xCB#8, 0x1A#8]
  | .rr_E => [0xCB#8, 0x1B#8]
  | .rr_H => [0xCB#8, 0x1C#8]
  | .rr_L => [0xCB#8, 0x1D#8]
  | .rr_atHL => [0xCB#8, 0x1E#8]
  | .rr_A => [0xCB#8, 0x1F#8]
  | .bit_0_B => [0xCB#8, 0x40#8]
  | .bit_0_C => [0xCB#8, 0x41#8]
  | .bit_0_D => [0xCB#8, 0x42#8]
  | .bit_0_E => [0xCB#8, 0x43#8]
  | .bit_0_H => [0xCB#8, 0x44#8]
  | .bit_0_L => [0xCB#8, 0x45#8]
  | .bit_0_atHL => [0xCB#8, 0x46#8]
  | .bit_0_A => [0xCB#8, 0x47#8]
  | .bit_1_B => [0xCB#8, 0x48#8]
  | .bit_1_C => [0xCB#8, 0x49#8]
  | .bit_1_D => [0xCB#8, 0x4A#8]
  | .bit_1_E => [0xCB#8, 0x4B#8]
  | .bit_1_H => [0xCB#8, 0x4C#8]
  | .bit_1_L => [0xCB#8, 0x4D#8]
  | .bit_1_atHL => [0xCB#8, 0x4E#8]
  | .bit_1_A => [0xCB#8, 0x4F#8]
  | .bit_2_B => [0xCB#8, 0x50#8]
  | .bit_2_C => [0xCB#8, 0x51#8]
  | .bit_2_D => [0xCB#8, 0x52#8]
  | .bit_2_E => [0xCB#8, 0x53#8]
  | .bit_2_H => [0xCB#8, 0x54#8]
  | .bit_2_L => [0xCB#8, 0x55#8]
  | .bit_2_atHL => [0xCB#8, 0x56#8]
  | .bit_2_A => [0xCB#8, 0x57#8]
  | .bit_3_B => [0xCB#8, 0x58#8]
  | .bit_3_C => [0xCB#8, 0x59#8]
  | .bit_3_D => [0xCB#8, 0x5A#8]
  | .bit_3_E => [0xCB#8, 0x5B#8]
  | .bit_3_H => [0xCB#8, 0x5C#8]
  | .bit_3_L => [0xCB#8, 0x5D#8]
  | .bit_3_atHL => [0xCB#8, 0x5E#8]
  | .bit_3_A => [0xCB#8, 0x5F#8]
  | .bit_4_B => [0xCB#8, 0x60#8]
  | .bit_4_C => [0xCB#8, 0x61#8]
  | .bit_4_D => [0xCB#8, 0x62#8]
  | .bit_4_E => [0xCB#8, 0x63#8]
  | .bit_4_H => [0xCB#8, 0x64#8]
  | .bit_4_L => [0xCB#8, 0x65#8]
  | .bit_4_atHL => [0xCB#8, 0x66#8]
  | .bit_4_A => [0xCB#8, 0x67#8]
  | .bit_5_B => [0xCB#8, 0x68#8]
  | .bit_5_C => [0xCB#8, 0x69#8]
  | .bit_5_D => [0xCB#8, 0x6A#8]
  | .bit_5_E => [0xCB#8, 0x6B#8]
  | .bit_5_H => [0xCB#8, 0x6C#8]
  | .bit_5_L => [0xCB#8, 0x6D#8]
  | .bit_5_atHL => [0xCB#8, 0x6E#8]
  | .bit_5_A => [0xCB#8, 0x6F#8]
  | .bit_6_B => [0xCB#8, 0x70#8]
  | .bit_6_C => [0xCB#8, 0x71#8]
  | .bit_6_D => [0xCB#8, 0x72#8]
  | .bit_6_E => [0xCB#8, 0x73#8]
  | .bit_6_H => [0xCB#8, 0x74#8]
  | .bit_6_L => [0xCB#8, 0x75#8]
  | .bit_6_atHL => [0xCB#8, 0x76#8]
  | .bit_6_A => [0xCB#8, 0x77#8]
  | .bit_7_B => [0xCB#8, 0x78#8]
  | .bit_7_C => [0xCB#8, 0x79#8]
  | .bit_7_D => [0xCB#8, 0x7A#8]
  | .bit_7_E => [0xCB#8, 0x7B#8]
  | .bit_7_H => [0xCB#8, 0x7C#8]
  | .bit_7_L => [0xCB#8, 0x7D#8]
  | .bit_7_atHL => [0xCB#8, 0x7E#8]
  | .bit_7_A => [0xCB#8, 0x7F#8]

/-- The length of an instruction in bytes (R90, R91). -/
def Instr.length (i : Instr) : Nat := (encode i).length

/-- The opcode byte of an instruction's record: the byte that is looked up, the second one for an extended instruction (R94,
40_step_cycle.md R123). -/
def Instr.opcode (i : Instr) : Byte :=
  match encode i with
  | b0 :: rest => if b0 = 0xCB#8 then rest.headD b0 else b0
  | [] => 0

/-- Whether an instruction is of the extended table: its first byte is the escape opcode (R93, R98). -/
def Instr.isExtended (i : Instr) : Bool := decide ((encode i).head? = some 0xCB#8)

/-- The mnemonic the table gives an instruction (R95, R96, R103). -/
def Instr.mnemonic (i : Instr) : String :=
  if i.isExtended then
    match extendedEntry i.opcode with
    | some e => e.mnemonic
    | none => "PREFIX"
  else
    match primaryCell i.opcode with
    | .entry e => e.mnemonic
    | _ => "PREFIX"

/-- The bytes of an instruction whose bits are `w` in the numbering of spec/opcode_table.json (log 14): a primary row numbers
byte 0 as bits 7 to 0, with later bytes above it; an extended row is the 16-bit number `byte0 :: byte1` (R104), so byte 0, the
escape, is bits 15 to 8. Bits above `nbits` are zero, and there are three bytes, the longest instruction (R90). -/
def tableBytes (nbits w : Nat) : List Byte :=
  let v := w % 2 ^ nbits
  if nbits = 16 ∧ v / 256 = 0xCB then [0xCB#8, BitVec.ofNat 8 v, 0x00#8]
  else [BitVec.ofNat 8 v, BitVec.ofNat 8 (v / 256), BitVec.ofNat 8 (v / 65536)]

/-- The instruction the decoder reads from a table row's bits, `none` where it refuses. -/
def decodeTableWord (nbits w : Nat) : Option Instr :=
  match decode (tableBytes nbits w) with
  | .instr i _ => some i
  | .unimplementedOpcode _ _ => none
  | .truncated => none

end Sys2Proof
end

