-- ==== Sys2Proof/Config.lean ====
section
/-! DEFINITION. The implementation parameters of 00_scope.md R8: the two OPEN ones as free values, and the reset values.
`OPTABLE_EXT` is empty (log 7), so it has no name here; `ROM_INIT` is state (log 3). -/

namespace Sys2Proof.Config

/-- The bootstrap image `BOOT_IMAGE`, 256 bytes, OPEN: its bytes are not in the spec and nothing about them may be proved
(R8, 70_reset_and_hazards.md R294). Free value, log 2, safe. -/
opaque bootImage : Fin 256 → Byte

/-- `VRAM_FILL` less one: which of the 255 non-zero bytes the fill is. Free value, log 1, safe. -/
opaque vramFillPred : Fin 255

/-- `VRAM_FILL`, the byte every byte of Video RAM holds at reset: OPEN, "known only to be non-zero" (R8, R294, D7). -/
def vramFill : Byte := BitVec.ofNat 8 (vramFillPred.val + 1)

/-- `PC_RESET` (R8, R292): DEDUCED by the spec, log 5. -/
def pcReset : Word := 0x0000#16

/-- `SP_RESET` (R8, R293): DESIGN CHOICE of the spec (D6), log 4, unsafe. -/
def spReset : Word := 0x0000#16

end Sys2Proof.Config
end

