-- ==== Sys2Proof/Machine/State.lean ====
section
/-! DEFINITION. The state of the core as plain data (10_state.md R20 to R30), its fault record (60_exceptions.md R260), the
two stop types of the host's interface, and the state after reset (R35, 70_reset_and_hazards.md R291). -/

namespace Sys2Proof.Machine

/-- The two operations of the memory contract, the `operation` of a memory fault (R260, D22). A fetch is a `read`. -/
inductive Access where
  | read
  | write
deriving DecidableEq, Repr

/-- The fault record, "two error kinds, both fatal/unrecoverable" (60_exceptions.md R260). Raising one is a NEXT state whose
`status` is `faulted` (R122, R263; log 8), so `Host.Outcome.fault` is never answered: every step answers a next state. -/
inductive Fault where
  /-- Raised by the memory address decoder, and only by it: a byte write to ROM, or any byte access to the Unused region
  (R261). Safe: the spec ends the run here too. -/
  | illegalMemoryAccess (address : Word) (operation : Access)
  /-- Raised by the opcode decoder, and only by it: the byte looked up is absent from the active table (R262). Safe: the spec
  ends the run here too. -/
  | unimplementedOpcode (opcode : Byte) (isExtended : Bool)
deriving DecidableEq, Repr

/-- Why the model would give no meaning. No arm of `exec` answers one: every row of the opcode table has its meaning. -/
inductive Refusal where
  /-- Raised by `exec` alone, for an instruction that has no meaning yet; none is left. Safe. -/
  | notModelled (mnemonic : String)
deriving DecidableEq, Repr

/-- The run status (10_state.md R29). -/
inductive Status where
  | running
  | faulted (f : Fault)
deriving DecidableEq, Repr

/-- One record of the `trace` port (40_step_cycle.md R123): `address` is that of the instruction's first byte, `opcode` the
byte that was looked up, `mnemonic` the table entry's string. -/
structure TraceRecord where
  address    : Word
  opcode     : Byte
  mnemonic   : String
  isExtended : Bool
deriving DecidableEq, Repr

/-- Where ROM's contents come from (00_scope.md R8 `ROM_INIT`, R291 steps 5 and 6; log 3): the default, zeros with the
bootstrap image at offset 0, or contents the host has given before the first step. -/
inductive RomSource where
  | bootImage
  | preload
deriving DecidableEq, Repr

/-- The backing stores of 10_state.md R28. -/
inductive StoreId where
  | romBank0 | romBankN | vram | eram | wramBank0 | wramBankN | echo | oam | io | hram | ie
deriving DecidableEq, Repr

/-- The memory: eleven backing stores (10_state.md R28). A store is a list of (index, byte) pairs, indices strictly rising, no
entry equal to what an unlisted byte of the store reads as (`Store.unlisted`); `ie` is its one byte. -/
structure Memory where
  romSource : RomSource
  romBank0  : List Host.Cell
  romBankN  : List Host.Cell
  vram      : List Host.Cell
  eram      : List Host.Cell
  wramBank0 : List Host.Cell
  wramBankN : List Host.Cell
  echo      : List Host.Cell
  oam       : List Host.Cell
  io        : List Host.Cell
  hram      : List Host.Cell
  ie        : Byte
deriving DecidableEq, Repr

/-- Memory after reset (R35): nothing listed, the default ROM contents, the Interrupt-Enable byte zero. -/
def Memory.reset : Memory :=
  { romSource := .bootImage, romBank0 := [], romBankN := [], vram := [], eram := [], wramBank0 := [], wramBankN := [],
    echo := [], oam := [], io := [], hram := [], ie := 0x00#8 }

/-- The whole state (10_state.md R20 to R30). `trace` is not read by anything: it holds what the `trace` port has emitted,
newest record first (R41, R123; log 11). -/
structure State where
  a      : Byte
  f      : Byte
  b      : Byte
  c      : Byte
  d      : Byte
  e      : Byte
  h      : Byte
  l      : Byte
  sp     : Word
  pc     : Word
  mem    : Memory
  status : Status
  trace  : List TraceRecord
deriving DecidableEq, Repr

/-- The machine right after construction (R35, R291): registers zero, `pc` and `sp` at their reset values, `Running`. -/
def State.reset : State :=
  { a := 0x00#8, f := 0x00#8, b := 0x00#8, c := 0x00#8, d := 0x00#8, e := 0x00#8, h := 0x00#8, l := 0x00#8,
    sp := Config.spReset, pc := Config.pcReset, mem := Memory.reset, status := .running, trace := [] }

end Sys2Proof.Machine
end

