-- ==== Sys2Proof/Machine/Ops.lean ====
section
/-! DEFINITION. The named operations over registers and memory (10_state.md, 20_memory.md), the fetch primitives
(40_step_cycle.md R121), the stack primitives (45_stack_control.md R240, R241), raising a fault (60_exceptions.md R263), and the
preload port (10_state.md R41). There is no return from a fault: no handler, nothing saved (R271). -/

namespace Sys2Proof.Machine

/-- What a step or an instruction answers. -/
abbrev StepOutcome := Host.Outcome State Fault Refusal

/-! ## Registers -/

/-- `x[r]` (10_state.md R20). -/
def State.get8 (s : State) : Reg → Byte
  | .a => s.a
  | .f => s.f
  | .b => s.b
  | .c => s.c
  | .d => s.d
  | .e => s.e
  | .h => s.h
  | .l => s.l

/-- `x[r] <- v` (R20): a write of `F` keeps only `v[7:4]` (R23). -/
def State.set8 (s : State) (r : Reg) (v : Byte) : State :=
  match r with
  | .a => { s with a := v }
  | .f => { s with f := v &&& 0xF0#8 }
  | .b => { s with b := v }
  | .c => { s with c := v }
  | .d => { s with d := v }
  | .e => { s with e := v }
  | .h => { s with h := v }
  | .l => { s with l := v }

/-- The register in a pair's high byte: the pair's first letter (R21). -/
def pairHi : Pair → Reg
  | .bc => .b | .de => .d | .hl => .h | .af => .a

/-- The register in a pair's low byte (R21). -/
def pairLo : Pair → Reg
  | .bc => .c | .de => .e | .hl => .l | .af => .f

/-- `x[rr]` (R21): `x[hi] :: x[lo]`. -/
def State.get16 (s : State) (p : Pair) : Word := wordOf (s.get8 (pairHi p)) (s.get8 (pairLo p))

/-- `x[rr] <- v` (R21): `x[hi] <- v[15:8]; x[lo] <- v[7:0]`, with R23 for `F`. -/
def State.set16 (s : State) (p : Pair) (v : Word) : State :=
  (s.set8 (pairHi p) (hiByte v)).set8 (pairLo p) (loByte v)

/-- `x[HL]`. -/
def State.hl (s : State) : Word := s.get16 .hl

/-- `pc <- v` (R26). -/
def State.setPc (s : State) (v : Word) : State := { s with pc := v }

/-- `sp <- v` (R27). -/
def State.setSp (s : State) (v : Word) : State := { s with sp := v }

/-- The state with another memory. -/
def State.setMem (s : State) (m : Memory) : State := { s with mem := m }

/-- The state with another run status (R29). -/
def State.setStatus (s : State) (x : Status) : State := { s with status := x }

/-- One more record on the `trace` port (40_step_cycle.md R123). -/
def State.addTrace (s : State) (r : TraceRecord) : State := { s with trace := r :: s.trace }

/-- `flag.Z` (10_state.md R22). -/
def State.flagZ (s : State) : Bool := s.f.getLsbD 7
/-- `flag.N` (R22). -/
def State.flagN (s : State) : Bool := s.f.getLsbD 6
/-- `flag.H` (R22). -/
def State.flagH (s : State) : Bool := s.f.getLsbD 5
/-- `flag.C` (R22). -/
def State.flagC (s : State) : Bool := s.f.getLsbD 4

/-! ## The backing stores -/

/-- The number of bytes of a store (10_state.md R28). -/
def Store.size : StoreId → Nat
  | .romBank0 => 16384
  | .romBankN => 16384
  | .vram => 8192
  | .eram => 8192
  | .wramBank0 => 4096
  | .wramBankN => 4096
  | .echo => 7680
  | .oam => 160
  | .io => 128
  | .hram => 127
  | .ie => 1

/-- What a byte of a store that its list does not hold reads as: the reset contents of 10_state.md R35. ROM is zero but for the
bootstrap image, and all zero once the host has given ROM's contents (R291 step 6); Video RAM is `VRAM_FILL`; the rest is
zero. -/
def Store.unlisted (src : RomSource) (st : StoreId) (i : Nat) : Byte :=
  match st with
  | .romBank0 =>
    match src with
    | .bootImage => if h : i < 256 then Config.bootImage ⟨i, h⟩ else 0x00#8
    | .preload => 0x00#8
  | .vram => Config.vramFill
  | _ => 0x00#8

/-- The byte a list of cells holds at an index, `dflt` where it holds none. -/
def Cells.read (dflt : Nat → Byte) : List Host.Cell → Nat → Byte
  | [], i => dflt i
  | (j, v) :: rest, i => if i = j then v else Cells.read dflt rest i

/-- The list without an index. -/
def Cells.erase : List Host.Cell → Nat → List Host.Cell
  | [], _ => []
  | (j, w) :: rest, i => if j = i then Cells.erase rest i else (j, w) :: Cells.erase rest i

/-- The list with a cell put before the first larger index. -/
def Cells.insert : List Host.Cell → Nat → Byte → List Host.Cell
  | [], i, v => [(i, v)]
  | (j, w) :: rest, i, v => if i < j then (i, v) :: (j, w) :: rest else (j, w) :: Cells.insert rest i v

/-- The list with index `i` holding `v`: no entry where `v` is what an unlisted byte reads as, so a list in canonical form stays
in it. -/
def Cells.write (dflt : Nat → Byte) (l : List Host.Cell) (i : Nat) (v : Byte) : List Host.Cell :=
  if v = dflt i then Cells.erase l i else Cells.insert (Cells.erase l i) i v

/-- Canonical form of a list of cells: every index at least `lo` and below `size`, strictly rising, no entry equal to what an
unlisted byte reads as. -/
def Cells.wf (dflt : Nat → Byte) (size : Nat) : Nat → List Host.Cell → Bool
  | _, [] => true
  | lo, (j, v) :: rest => decide (lo ≤ j ∧ j < size ∧ v ≠ dflt j) && Cells.wf dflt size (j + 1) rest

/-- The list of a store; the one-byte store `ie` has none. -/
def Memory.cells (m : Memory) : StoreId → List Host.Cell
  | .romBank0 => m.romBank0
  | .romBankN => m.romBankN
  | .vram => m.vram
  | .eram => m.eram
  | .wramBank0 => m.wramBank0
  | .wramBankN => m.wramBankN
  | .echo => m.echo
  | .oam => m.oam
  | .io => m.io
  | .hram => m.hram
  | .ie => []

/-- The memory with another list for a store. -/
def Memory.setCells (m : Memory) (st : StoreId) (l : List Host.Cell) : Memory :=
  match st with
  | .romBank0 => { m with romBank0 := l }
  | .romBankN => { m with romBankN := l }
  | .vram => { m with vram := l }
  | .eram => { m with eram := l }
  | .wramBank0 => { m with wramBank0 := l }
  | .wramBankN => { m with wramBankN := l }
  | .echo => { m with echo := l }
  | .oam => { m with oam := l }
  | .io => { m with io := l }
  | .hram => { m with hram := l }
  | .ie => m

/-- `store[i]` (20_memory.md R57). -/
def Memory.readStore (m : Memory) (st : StoreId) (i : Nat) : Byte :=
  if st = .ie then m.ie else Cells.read (Store.unlisted m.romSource st) (m.cells st) i

/-- `store[i] <- v` (R58): exactly one byte of exactly one store. -/
def Memory.writeStore (m : Memory) (st : StoreId) (i : Nat) (v : Byte) : Memory :=
  if st = .ie then { m with ie := v }
  else m.setCells st (Cells.write (Store.unlisted m.romSource st) (m.cells st) i v)

/-- The stores that have a list. -/
def Store.listed : List StoreId :=
  [.romBank0, .romBankN, .vram, .eram, .wramBank0, .wramBankN, .echo, .oam, .io, .hram]

/-- Memory is well formed: every store's list is in canonical form, and the default ROM lists nothing, since only a preload
gives ROM other contents (R77). -/
def Memory.wf (m : Memory) : Bool :=
  Store.listed.all (fun st => Cells.wf (Store.unlisted m.romSource st) (Store.size st) 0 (m.cells st)) &&
    (decide (m.romSource = .preload) || (m.romBank0.isEmpty && m.romBankN.isEmpty))

/-! ## The memory address decoder -/

/-- One row of the region table (20_memory.md R51). -/
structure Region where
  name     : String
  first    : Nat
  last     : Nat
  size     : Nat
  banked   : Bool
  readable : Bool
  writable : Bool
deriving DecidableEq, Repr

/-- The region table (R51): ten rows (90_conflicts.md C1). -/
def regionTable : List Region := [
  ⟨"ROM", 0x0000, 0x7FFF, 32768, true, true, false⟩,
  ⟨"Video RAM", 0x8000, 0x9FFF, 8192, false, true, true⟩,
  ⟨"External RAM", 0xA000, 0xBFFF, 8192, false, true, true⟩,
  ⟨"Work RAM", 0xC000, 0xDFFF, 8192, true, true, true⟩,
  ⟨"Echo RAM", 0xE000, 0xFDFF, 7680, false, true, true⟩,
  ⟨"Object Attribute Memory", 0xFE00, 0xFE9F, 160, false, true, true⟩,
  ⟨"Unused", 0xFEA0, 0xFEFF, 96, false, false, false⟩,
  ⟨"I/O registers", 0xFF00, 0xFF7F, 128, false, true, true⟩,
  ⟨"High RAM", 0xFF80, 0xFFFE, 127, false, true, true⟩,
  ⟨"Interrupt-Enable register", 0xFFFF, 0xFFFF, 1, false, true, true⟩]

/-- `Route(addr)` (R53): the store an address reaches and the index in it, `none` for the Unused region. The half of a banked
region is chosen by the address alone (R55, R56). -/
def route (addr : Word) : Option (StoreId × Nat) :=
  let n := addr.toNat
  if n ≤ 0x3FFF then some (.romBank0, n)
  else if n ≤ 0x7FFF then some (.romBankN, n - 0x4000)
  else if n ≤ 0x9FFF then some (.vram, n - 0x8000)
  else if n ≤ 0xBFFF then some (.eram, n - 0xA000)
  else if n ≤ 0xCFFF then some (.wramBank0, n - 0xC000)
  else if n ≤ 0xDFFF then some (.wramBankN, n - 0xD000)
  else if n ≤ 0xFDFF then some (.echo, n - 0xE000)
  else if n ≤ 0xFE9F then some (.oam, n - 0xFE00)
  else if n ≤ 0xFEFF then none
  else if n ≤ 0xFF7F then some (.io, n - 0xFF00)
  else if n ≤ 0xFFFE then some (.hram, n - 0xFF80)
  else some (.ie, 0)

/-- The byte at an address, `none` where there is none (R57); also what the `inspect` port shows (10_state.md R40, R41). -/
def Memory.peek (m : Memory) (addr : Word) : Option Byte :=
  match route addr with
  | none => none
  | some (st, i) => some (m.readStore st i)

/-- The byte of the state's memory at an address. -/
def State.peek (s : State) (addr : Word) : Option Byte := s.mem.peek addr

/-- The memory with the byte at an address replaced, whatever the region allows; nothing at an address with no store. -/
def Memory.poke (m : Memory) (addr : Word) (v : Byte) : Memory :=
  match route addr with
  | none => m
  | some (st, i) => m.writeStore st i v

/-! ## Sequencing inside a step -/

/-- A part of a step (00_scope.md R12): it ends with a value and a state, or with a fault raised and the state at the raise.
Nothing is rolled back (60_exceptions.md R266). -/
abbrev Exec := EStateM Fault State

/-- A value read off the state. -/
def view {α : Type} (g : State → α) : Exec α := fun s => .ok (g s) s

/-- A change of the state. -/
def update (g : State → State) : Exec Unit := fun s => .ok () (g s)

/-- `raise f` (R12): no later statement runs, and every write made stays made. -/
def raise {α : Type} (f : Fault) : Exec α := fun s => .error f s

/-- Taking a fault (60_exceptions.md R263): the step ends and `status <- Faulted(f)`; nothing is saved and control goes nowhere
(R271). A next state (40_step_cycle.md R122; log 8). -/
def takeFault (f : Fault) (s : State) : StepOutcome := .next (s.setStatus (.faulted f))

/-- The end of a part of a step: its state, or the fault it raised taken. -/
def complete (m : Exec Unit) (s : State) : StepOutcome :=
  match m s with
  | .ok _ t => .next t
  | .error f t => takeFault f t

/-- `x[r]` as a statement. -/
def readReg (r : Reg) : Exec Byte := view (fun s => s.get8 r)

/-- `x[r] <- v` as a statement. -/
def writeReg (r : Reg) (v : Byte) : Exec Unit := update (fun s => s.set8 r v)

/-! ## Memory access -/

/-- `MemRead(addr, 1)` (20_memory.md R57). -/
def readByte (addr : Word) : Exec Byte := fun s =>
  match s.peek addr with
  | none => .error (.illegalMemoryAccess addr .read) s
  | some v => .ok v s

/-- Whether a byte write to an address succeeds: not in ROM (R59), not in Unused (R60), anywhere else (R61). -/
def writable (addr : Word) : Bool := decide (0x7FFF < addr.toNat) && (route addr).isSome

/-- `MemWrite(addr, 1, v)` (R58). -/
def writeByte (addr : Word) (v : Byte) : Exec Unit := fun s =>
  if writable addr then .ok () (s.setMem (s.mem.poke addr v))
  else .error (.illegalMemoryAccess addr .write) s

/-- `MemRead(addr, 2)` (R62): the low byte at `addr`, the high byte at `addr + 1` modulo 65536, each routed on its own (R64). -/
def readWord (addr : Word) : Exec Word := do
  let lo ← readByte addr
  let hi ← readByte (addr + 1#16)
  return wordOf hi lo

/-- `MemWrite(addr, 2, v)` (R63): the low byte first; if the high byte's access faults the low byte stays written (R64). -/
def writeWord (addr v : Word) : Exec Unit := do
  writeByte addr (loByte v)
  writeByte (addr + 1#16) (hiByte v)

/-! ## Fetch and stack -/

/-- `Fetch8()` (40_step_cycle.md R121): the read first, the advance second. -/
def fetch8 : Exec Byte := do
  let pc ← view State.pc
  let v ← readByte pc
  update (fun s => s.setPc (pc + 1#16))
  return v

/-- `Fetch16()` (R121): `pc` moves only after both bytes have been read. -/
def fetch16 : Exec Word := do
  let pc ← view State.pc
  let v ← readWord pc
  update (fun s => s.setPc (pc + 2#16))
  return v

/-- `PushWord(v)` (45_stack_control.md R240): `sp` is decremented before the write. -/
def pushWord (v : Word) : Exec Unit := do
  update (fun s => s.setSp (s.sp - 2#16))
  let sp ← view State.sp
  writeWord sp v

/-- `PopWord()` (R241): `sp` is incremented after the read. -/
def popWord : Exec Word := do
  let sp ← view State.sp
  let v ← readWord sp
  update (fun s => s.setSp (sp + 2#16))
  return v

/-- The bytes at an address and after it, wrapping, up to `n` of them and up to the first address that has none. -/
def State.bytesAt (s : State) : Nat → Word → List Byte
  | 0, _ => []
  | n + 1, addr =>
    match s.peek addr with
    | none => []
    | some b => b :: s.bytesAt n (addr + 1#16)

/-- The bytes the next instruction can be made of: at most three (30_encoding.md R90), fewer where one lies in Unused. -/
def State.codeAt (s : State) : List Byte := s.bytesAt 3 s.pc

/-! ## The preload port -/

/-- One byte given from outside, not a `write_byte` and raising nothing (20_memory.md R77). A byte of ROM makes ROM's contents
the host's: all of ROM it does not give is zero (70_reset_and_hazards.md R291 step 6; log 3). -/
def Memory.preloadByte (m : Memory) (addr : Word) (v : Byte) : Memory :=
  if addr.toNat ≤ 0x7FFF then
    ({ m with romSource := .preload } : Memory).poke addr v
  else m.poke addr v

/-- Bytes given from outside at an address and after it, wrapping. -/
def State.preload (s : State) (addr : Word) : List Byte → State
  | [] => s
  | v :: rest => (s.setMem (s.mem.preloadByte addr v)).preload (addr + 1#16) rest

/-- The `preload` port (10_state.md R41, R291 step 6): ROM's contents become `rom`, from address `0x0000`, and zero after it. -/
def State.preloadRom (s : State) (rom : List Byte) : State :=
  (s.setMem { s.mem with romSource := .preload, romBank0 := [], romBankN := [] }).preload 0x0000#16 (rom.take 32768)

end Sys2Proof.Machine
end

