-- ==== Sys2Proof/Machine/Flags.lean ====
section
/-! DEFINITION. The flag byte (10_state.md R22) and the ALU helpers: 42_alu8.md R180 to R186, 43_alu16.md R210 and R211,
44_rotate_bit.md R220 to R224. Each takes operands and the current flag byte and returns the result and the new flag byte. -/

namespace Sys2Proof.Machine

/-- A bit as a byte, 0 or 1. -/
def bitByte (b : Bool) : Byte := if b then 0x01#8 else 0x00#8

/-- `flags(z,n,h,c)` (10_state.md R22): the byte `z :: n :: h :: c :: 0b0000`. -/
def flags (z n h c : Bool) : Byte :=
  (bitByte z <<< 7) ||| (bitByte n <<< 6) ||| (bitByte h <<< 5) ||| (bitByte c <<< 4)

/-- `f[7]`, the Z flag of a flag byte. -/
def zOf (f : Byte) : Bool := f.getLsbD 7

/-- `f[4]`, the C flag of a flag byte. -/
def cOf (f : Byte) : Bool := f.getLsbD 4

/-- `Increment8(v, f)` (42_alu8.md R180). -/
def increment8 (v f : Byte) : Byte × Byte :=
  let res := BitVec.ofNat 8 (v.toNat + 1)
  (res, flags (decide (res = 0)) false (decide ((v.toNat &&& 0xF) + 1 > 0xF)) (cOf f))

/-- `Decrement8(v, f)` (R181). -/
def decrement8 (v f : Byte) : Byte × Byte :=
  let res := v - 1
  (res, flags (decide (res = 0)) true (decide (v.toNat &&& 0xF = 0)) (cOf f))

/-- `Add8(a, b, f)` (R182). No bit of `f` is used. -/
def add8 (a b _f : Byte) : Byte × Byte :=
  let res := BitVec.ofNat 8 (a.toNat + b.toNat)
  (res, flags (decide (res = 0)) false (decide ((a.toNat &&& 0xF) + (b.toNat &&& 0xF) > 0xF))
    (decide (a.toNat + b.toNat > 0xFF)))

/-- `Sub8(a, b, f)` (R183). No bit of `f` is used. -/
def sub8 (a b _f : Byte) : Byte × Byte :=
  let res := a - b
  (res, flags (decide (res = 0)) true (decide ((a ^^^ b ^^^ res) &&& 0x10#8 ≠ 0)) (decide (a.toNat < b.toNat)))

/-- `Compare8(a, b, f)` (R184): the flags of `Sub8`, no result. -/
def compare8 (a b f : Byte) : Byte := (sub8 a b f).2

/-- `Sbc8(a, b, f)` (R185): `b2 = b + cin` is an integer 0 to 256, not reduced, and the tests of `Sub8` are applied to it (D5,
log 19). -/
def sbc8 (a b f : Byte) : Byte × Byte :=
  let b2 := b.toNat + (if cOf f then 1 else 0)
  let res := a - BitVec.ofNat 8 b2
  (res, flags (decide (res = 0)) true (decide ((a.toNat ^^^ b2 ^^^ res.toNat) &&& 0x10 ≠ 0)) (decide (a.toNat < b2)))

/-- `Xor8(a, b, f)` (R186). -/
def xor8 (a b _f : Byte) : Byte × Byte :=
  let res := a ^^^ b
  (res, flags (decide (res = 0)) false false false)

/-- `Add16(a, b, f)` (43_alu16.md R210): Z is kept. -/
def add16 (a b : Word) (f : Byte) : Word × Byte :=
  (BitVec.ofNat 16 (a.toNat + b.toNat),
    flags (zOf f) false (decide ((a.toNat &&& 0xFFF) + (b.toNat &&& 0xFFF) > 0xFFF)) (decide (a.toNat + b.toNat > 0xFFFF)))

/-- `Increment16(v)` (R211): no flag. -/
def increment16 (v : Word) : Word := v + 1

/-- `Decrement16(v)` (R211): no flag. -/
def decrement16 (v : Word) : Word := v - 1

/-- `RotateLeft(v, f)` (44_rotate_bit.md R220): Z is cleared whatever the result. -/
def rotateLeft (v _f : Byte) : Byte × Byte :=
  ((v <<< 1) ||| bitByte (v.getLsbD 7), flags false false false (v.getLsbD 7))

/-- `RotateRight(v, f)` (R221): Z is cleared whatever the result. -/
def rotateRight (v _f : Byte) : Byte × Byte :=
  ((v >>> 1) ||| (bitByte (v.getLsbD 0) <<< 7), flags false false false (v.getLsbD 0))

/-- `RotateLeftThroughCarry(v, f)` (R222): the old C enters at bit 0. -/
def rotateLeftThroughCarry (v f : Byte) : Byte × Byte :=
  let res := (v <<< 1) ||| bitByte (cOf f)
  (res, flags (decide (res = 0)) false false (v.getLsbD 7))

/-- `RotateRightThroughCarry(v, f)` (R223): the old C enters at bit 7. -/
def rotateRightThroughCarry (v f : Byte) : Byte × Byte :=
  let res := (v >>> 1) ||| (bitByte (cOf f) <<< 7)
  (res, flags (decide (res = 0)) false false (v.getLsbD 0))

/-- `BitTest(n, v, f)` (R224). -/
def bitTest (n : Fin 8) (v f : Byte) : Byte := flags (!(v.getLsbD n.val)) false true (cOf f)

/-- The helper of a rotate kind, assigned by name (D4, log 20). -/
def rotateHelper : Rot → Byte → Byte → Byte × Byte
  | .rlc => rotateLeft
  | .rrc => rotateRight
  | .rl => rotateLeftThroughCarry
  | .rr => rotateRightThroughCarry

end Sys2Proof.Machine
end

