-- ==== Sys2Proof/Machine/Operands.lean ====
section
/-! DEFINITION. The operand forms of 30_encoding.md R100: how each is read, written and addressed. -/

namespace Sys2Proof.Machine

/-- The high page: `0xFF00 + zext_16(n)` (R100). -/
def highPage (n : Byte) : Word := 0xFF00#16 + zext16 n

/-- The address of a memory operand of `A` (R100). -/
def AMem.addr (m : AMem) (s : State) : Word :=
  match m with
  | .atBC => s.get16 .bc
  | .atDE => s.get16 .de
  | .atNN nn => nn
  | .highN n => highPage n
  | .highC => highPage (s.get8 .c)

/-- A pair operand, or `sp` (R92 `rp`). -/
def State.getRp (s : State) : Rp → Word
  | .bc => s.get16 .bc
  | .de => s.get16 .de
  | .hl => s.get16 .hl
  | .sp => s.sp

/-- A write of a pair operand, or of `sp`. -/
def State.setRp (s : State) (p : Rp) (v : Word) : State :=
  match p with
  | .bc => s.set16 .bc v
  | .de => s.set16 .de v
  | .hl => s.set16 .hl v
  | .sp => s.setSp v

/-- The byte of a register operand or of `(HL)`. -/
def readLoc : Loc → Exec Byte
  | .r g => readReg g.reg
  | .atHL => do
    let addr ← view State.hl
    readByte addr

/-- A write of a register operand or of the byte at `(HL)`. -/
def writeLoc (o : Loc) (v : Byte) : Exec Unit :=
  match o with
  | .r g => writeReg g.reg v
  | .atHL => do
    let addr ← view State.hl
    writeByte addr v

/-- The second operand of an 8-bit ALU instruction. The immediate has been fetched with the instruction (log 15). -/
def readSrc : Src → Exec Byte
  | .r g => readReg g.reg
  | .atHL => do
    let addr ← view State.hl
    readByte addr
  | .n v => pure v

/-- `HL` stepped by `(HL+)` or `(HL-)`: `Increment16` or `Decrement16` (R100, D26). -/
def stepHL : HLStep → Word → Word
  | .plus => increment16
  | .minus => decrement16

/-- Whether a jump's condition holds: Z clear, Z set, or none (45_stack_control.md R245). -/
def JumpCond.holds (c : JumpCond) (s : State) : Bool :=
  match c with
  | .always => true
  | .nz => !s.flagZ
  | .z => s.flagZ

end Sys2Proof.Machine
end

