-- ==== Sys2Proof/Machine/Alu16.lean ====
section
/-! DEFINITION. 16-bit arithmetic (43_alu16.md R212 to R214). -/

namespace Sys2Proof.Machine

/-- `(res, f') <- Add16(x[HL], b, x[F]); x[HL] <- res; x[F] <- f'` (R212). -/
def addHL (p : Rp) : Exec Unit := do
  let b ← view (fun s => s.getRp p)
  let a ← view State.hl
  let f ← readReg .f
  let r := add16 a b f
  update (fun s => s.set16 .hl r.1)
  writeReg .f r.2

/-- `INC rr` and `DEC rr` (R213, R214): the pair or `sp` stepped, no flag. -/
def stepRp (op : Word → Word) (p : Rp) : Exec Unit := update (fun s => s.setRp p (op (s.getRp p)))

/-- `INC BC` (R213). -/
def execInc_BC (s : State) : StepOutcome := complete (stepRp increment16 .bc) s

/-- `ADD HL,BC` (R212). -/
def execAdd_HL_BC (s : State) : StepOutcome := complete (addHL .bc) s

/-- `DEC BC` (R214). -/
def execDec_BC (s : State) : StepOutcome := complete (stepRp decrement16 .bc) s

/-- `INC DE` (R213). -/
def execInc_DE (s : State) : StepOutcome := complete (stepRp increment16 .de) s

/-- `ADD HL,DE` (R212). -/
def execAdd_HL_DE (s : State) : StepOutcome := complete (addHL .de) s

/-- `DEC DE` (R214). -/
def execDec_DE (s : State) : StepOutcome := complete (stepRp decrement16 .de) s

/-- `INC HL` (R213). -/
def execInc_HL (s : State) : StepOutcome := complete (stepRp increment16 .hl) s

/-- `ADD HL,HL` (R212). -/
def execAdd_HL_HL (s : State) : StepOutcome := complete (addHL .hl) s

/-- `DEC HL` (R214). -/
def execDec_HL (s : State) : StepOutcome := complete (stepRp decrement16 .hl) s

/-- `INC SP` (R213). -/
def execInc_SP (s : State) : StepOutcome := complete (stepRp increment16 .sp) s

/-- `ADD HL,SP` (R212). -/
def execAdd_HL_SP (s : State) : StepOutcome := complete (addHL .sp) s

/-- `DEC SP` (R214). -/
def execDec_SP (s : State) : StepOutcome := complete (stepRp decrement16 .sp) s

end Sys2Proof.Machine
end

