-- ==== Sys2Proof/Machine/Alu8.lean ====
section
/-! DEFINITION. 8-bit arithmetic and logic (42_alu8.md R187 to R205): the shared operations over the helpers, then each
instruction. -/

namespace Sys2Proof.Machine

/-- Read, compute, write back, then `F` (R187 to R190, and the rotates of 44_rotate_bit.md): `(res, f') <- op(v, x[F])`. `F` is
written after the last access that can fault (D19). -/
def modifyLoc (op : Byte → Byte → Byte × Byte) (o : Loc) : Exec Unit := do
  let v ← readLoc o
  let f ← readReg .f
  let r := op v f
  writeLoc o r.1
  writeReg .f r.2

/-- `(res, f') <- op(x[A], v, x[F]); x[A] <- res; x[F] <- f'` (R191 to R202). -/
def accumulate (op : Byte → Byte → Byte → Byte × Byte) (src : Src) : Exec Unit := do
  let v ← readSrc src
  let a ← readReg .a
  let f ← readReg .f
  let r := op a v f
  writeReg .a r.1
  writeReg .f r.2

/-- `f' <- Compare8(x[A], v, x[F]); x[F] <- f'` (R203 to R205): `A` is not written. -/
def compareA (src : Src) : Exec Unit := do
  let v ← readSrc src
  let a ← readReg .a
  let f ← readReg .f
  writeReg .f (compare8 a v f)

/-- `INC B` (R187). -/
def execInc_B (s : State) : StepOutcome := complete (modifyLoc increment8 (.r .b)) s

/-- `DEC B` (R189). -/
def execDec_B (s : State) : StepOutcome := complete (modifyLoc decrement8 (.r .b)) s

/-- `INC C` (R187). -/
def execInc_C (s : State) : StepOutcome := complete (modifyLoc increment8 (.r .c)) s

/-- `DEC C` (R189). -/
def execDec_C (s : State) : StepOutcome := complete (modifyLoc decrement8 (.r .c)) s

/-- `INC D` (R187). -/
def execInc_D (s : State) : StepOutcome := complete (modifyLoc increment8 (.r .d)) s

/-- `DEC D` (R189). -/
def execDec_D (s : State) : StepOutcome := complete (modifyLoc decrement8 (.r .d)) s

/-- `INC E` (R187). -/
def execInc_E (s : State) : StepOutcome := complete (modifyLoc increment8 (.r .e)) s

/-- `DEC E` (R189). -/
def execDec_E (s : State) : StepOutcome := complete (modifyLoc decrement8 (.r .e)) s

/-- `INC H` (R187). -/
def execInc_H (s : State) : StepOutcome := complete (modifyLoc increment8 (.r .h)) s

/-- `DEC H` (R189). -/
def execDec_H (s : State) : StepOutcome := complete (modifyLoc decrement8 (.r .h)) s

/-- `INC L` (R187). -/
def execInc_L (s : State) : StepOutcome := complete (modifyLoc increment8 (.r .l)) s

/-- `DEC L` (R189). -/
def execDec_L (s : State) : StepOutcome := complete (modifyLoc decrement8 (.r .l)) s

/-- `INC (HL)` (R188). -/
def execInc_atHL (s : State) : StepOutcome := complete (modifyLoc increment8 .atHL) s

/-- `DEC (HL)` (R190). -/
def execDec_atHL (s : State) : StepOutcome := complete (modifyLoc decrement8 .atHL) s

/-- `INC A` (R187). -/
def execInc_A (s : State) : StepOutcome := complete (modifyLoc increment8 (.r .a)) s

/-- `DEC A` (R189). -/
def execDec_A (s : State) : StepOutcome := complete (modifyLoc decrement8 (.r .a)) s

/-- `ADD A,B` (R191). -/
def execAdd_A_B (s : State) : StepOutcome := complete (accumulate add8 (.r .b)) s

/-- `ADD A,C` (R191). -/
def execAdd_A_C (s : State) : StepOutcome := complete (accumulate add8 (.r .c)) s

/-- `ADD A,D` (R191). -/
def execAdd_A_D (s : State) : StepOutcome := complete (accumulate add8 (.r .d)) s

/-- `ADD A,E` (R191). -/
def execAdd_A_E (s : State) : StepOutcome := complete (accumulate add8 (.r .e)) s

/-- `ADD A,H` (R191). -/
def execAdd_A_H (s : State) : StepOutcome := complete (accumulate add8 (.r .h)) s

/-- `ADD A,L` (R191). -/
def execAdd_A_L (s : State) : StepOutcome := complete (accumulate add8 (.r .l)) s

/-- `ADD A,(HL)` (R192). -/
def execAdd_A_atHL (s : State) : StepOutcome := complete (accumulate add8 .atHL) s

/-- `ADD A,A` (R191). -/
def execAdd_A_A (s : State) : StepOutcome := complete (accumulate add8 (.r .a)) s

/-- `SUB B` (R194). -/
def execSub_B (s : State) : StepOutcome := complete (accumulate sub8 (.r .b)) s

/-- `SUB C` (R194). -/
def execSub_C (s : State) : StepOutcome := complete (accumulate sub8 (.r .c)) s

/-- `SUB D` (R194). -/
def execSub_D (s : State) : StepOutcome := complete (accumulate sub8 (.r .d)) s

/-- `SUB E` (R194). -/
def execSub_E (s : State) : StepOutcome := complete (accumulate sub8 (.r .e)) s

/-- `SUB H` (R194). -/
def execSub_H (s : State) : StepOutcome := complete (accumulate sub8 (.r .h)) s

/-- `SUB L` (R194). -/
def execSub_L (s : State) : StepOutcome := complete (accumulate sub8 (.r .l)) s

/-- `SUB (HL)` (R195). -/
def execSub_atHL (s : State) : StepOutcome := complete (accumulate sub8 .atHL) s

/-- `SUB A` (R194). -/
def execSub_A (s : State) : StepOutcome := complete (accumulate sub8 (.r .a)) s

/-- `SBC A,B` (R197). -/
def execSbc_A_B (s : State) : StepOutcome := complete (accumulate sbc8 (.r .b)) s

/-- `SBC A,C` (R197). -/
def execSbc_A_C (s : State) : StepOutcome := complete (accumulate sbc8 (.r .c)) s

/-- `SBC A,D` (R197). -/
def execSbc_A_D (s : State) : StepOutcome := complete (accumulate sbc8 (.r .d)) s

/-- `SBC A,E` (R197). -/
def execSbc_A_E (s : State) : StepOutcome := complete (accumulate sbc8 (.r .e)) s

/-- `SBC A,H` (R197). -/
def execSbc_A_H (s : State) : StepOutcome := complete (accumulate sbc8 (.r .h)) s

/-- `SBC A,L` (R197). -/
def execSbc_A_L (s : State) : StepOutcome := complete (accumulate sbc8 (.r .l)) s

/-- `SBC A,(HL)` (R198). -/
def execSbc_A_atHL (s : State) : StepOutcome := complete (accumulate sbc8 .atHL) s

/-- `SBC A,A` (R197). -/
def execSbc_A_A (s : State) : StepOutcome := complete (accumulate sbc8 (.r .a)) s

/-- `XOR B` (R200). -/
def execXor_B (s : State) : StepOutcome := complete (accumulate xor8 (.r .b)) s

/-- `XOR C` (R200). -/
def execXor_C (s : State) : StepOutcome := complete (accumulate xor8 (.r .c)) s

/-- `XOR D` (R200). -/
def execXor_D (s : State) : StepOutcome := complete (accumulate xor8 (.r .d)) s

/-- `XOR E` (R200). -/
def execXor_E (s : State) : StepOutcome := complete (accumulate xor8 (.r .e)) s

/-- `XOR H` (R200). -/
def execXor_H (s : State) : StepOutcome := complete (accumulate xor8 (.r .h)) s

/-- `XOR L` (R200). -/
def execXor_L (s : State) : StepOutcome := complete (accumulate xor8 (.r .l)) s

/-- `XOR (HL)` (R201). -/
def execXor_atHL (s : State) : StepOutcome := complete (accumulate xor8 .atHL) s

/-- `XOR A` (R200). -/
def execXor_A (s : State) : StepOutcome := complete (accumulate xor8 (.r .a)) s

/-- `CP B` (R203). -/
def execCp_B (s : State) : StepOutcome := complete (compareA (.r .b)) s

/-- `CP C` (R203). -/
def execCp_C (s : State) : StepOutcome := complete (compareA (.r .c)) s

/-- `CP D` (R203). -/
def execCp_D (s : State) : StepOutcome := complete (compareA (.r .d)) s

/-- `CP E` (R203). -/
def execCp_E (s : State) : StepOutcome := complete (compareA (.r .e)) s

/-- `CP H` (R203). -/
def execCp_H (s : State) : StepOutcome := complete (compareA (.r .h)) s

/-- `CP L` (R203). -/
def execCp_L (s : State) : StepOutcome := complete (compareA (.r .l)) s

/-- `CP (HL)` (R204). -/
def execCp_atHL (s : State) : StepOutcome := complete (compareA .atHL) s

/-- `CP A` (R203). -/
def execCp_A (s : State) : StepOutcome := complete (compareA (.r .a)) s

/-- `ADD A,n` (R193). -/
def execAdd_A_n (n : Byte) (s : State) : StepOutcome := complete (accumulate add8 (.n n)) s

/-- `SUB n` (R196). -/
def execSub_n (n : Byte) (s : State) : StepOutcome := complete (accumulate sub8 (.n n)) s

/-- `SBC A,n` (R199). -/
def execSbc_A_n (n : Byte) (s : State) : StepOutcome := complete (accumulate sbc8 (.n n)) s

/-- `XOR n` (R202). -/
def execXor_n (n : Byte) (s : State) : StepOutcome := complete (accumulate xor8 (.n n)) s

/-- `CP n` (R205). -/
def execCp_n (n : Byte) (s : State) : StepOutcome := complete (compareA (.n n)) s

end Sys2Proof.Machine
end

