-- ==== Sys2Proof/Machine/Rotate.lean ====
section
/-! DEFINITION. Rotates and bit test (44_rotate_bit.md R225 to R238). A rotate is `modifyLoc` with its helper. -/

namespace Sys2Proof.Machine

/-- `x[F] <- BitTest(b, v, x[F])` (R237, R238): the operand is not written. -/
def bitLoc (n : Fin 8) (o : Loc) : Exec Unit := do
  let v ← readLoc o
  let f ← readReg .f
  writeReg .f (bitTest n v f)

/-- `RLCA` (R225). -/
def execRlca (s : State) : StepOutcome := complete (modifyLoc rotateLeft (.r .a)) s

/-- `RRCA` (R226). -/
def execRrca (s : State) : StepOutcome := complete (modifyLoc rotateRight (.r .a)) s

/-- `RLA` (R227). -/
def execRla (s : State) : StepOutcome := complete (modifyLoc rotateLeftThroughCarry (.r .a)) s

/-- `RRA` (R228). -/
def execRra (s : State) : StepOutcome := complete (modifyLoc rotateRightThroughCarry (.r .a)) s

/-- `RLC B` (R229). -/
def execRlc_B (s : State) : StepOutcome := complete (modifyLoc rotateLeft (.r .b)) s

/-- `RLC C` (R229). -/
def execRlc_C (s : State) : StepOutcome := complete (modifyLoc rotateLeft (.r .c)) s

/-- `RLC D` (R229). -/
def execRlc_D (s : State) : StepOutcome := complete (modifyLoc rotateLeft (.r .d)) s

/-- `RLC E` (R229). -/
def execRlc_E (s : State) : StepOutcome := complete (modifyLoc rotateLeft (.r .e)) s

/-- `RLC H` (R229). -/
def execRlc_H (s : State) : StepOutcome := complete (modifyLoc rotateLeft (.r .h)) s

/-- `RLC L` (R229). -/
def execRlc_L (s : State) : StepOutcome := complete (modifyLoc rotateLeft (.r .l)) s

/-- `RLC (HL)` (R230). -/
def execRlc_atHL (s : State) : StepOutcome := complete (modifyLoc rotateLeft .atHL) s

/-- `RLC A` (R229). -/
def execRlc_A (s : State) : StepOutcome := complete (modifyLoc rotateLeft (.r .a)) s

/-- `RRC B` (R231). -/
def execRrc_B (s : State) : StepOutcome := complete (modifyLoc rotateRight (.r .b)) s

/-- `RRC C` (R231). -/
def execRrc_C (s : State) : StepOutcome := complete (modifyLoc rotateRight (.r .c)) s

/-- `RRC D` (R231). -/
def execRrc_D (s : State) : StepOutcome := complete (modifyLoc rotateRight (.r .d)) s

/-- `RRC E` (R231). -/
def execRrc_E (s : State) : StepOutcome := complete (modifyLoc rotateRight (.r .e)) s

/-- `RRC H` (R231). -/
def execRrc_H (s : State) : StepOutcome := complete (modifyLoc rotateRight (.r .h)) s

/-- `RRC L` (R231). -/
def execRrc_L (s : State) : StepOutcome := complete (modifyLoc rotateRight (.r .l)) s

/-- `RRC (HL)` (R232). -/
def execRrc_atHL (s : State) : StepOutcome := complete (modifyLoc rotateRight .atHL) s

/-- `RRC A` (R231). -/
def execRrc_A (s : State) : StepOutcome := complete (modifyLoc rotateRight (.r .a)) s

/-- `RL B` (R233). -/
def execRl_B (s : State) : StepOutcome := complete (modifyLoc rotateLeftThroughCarry (.r .b)) s

/-- `RL C` (R233). -/
def execRl_C (s : State) : StepOutcome := complete (modifyLoc rotateLeftThroughCarry (.r .c)) s

/-- `RL D` (R233). -/
def execRl_D (s : State) : StepOutcome := complete (modifyLoc rotateLeftThroughCarry (.r .d)) s

/-- `RL E` (R233). -/
def execRl_E (s : State) : StepOutcome := complete (modifyLoc rotateLeftThroughCarry (.r .e)) s

/-- `RL H` (R233). -/
def execRl_H (s : State) : StepOutcome := complete (modifyLoc rotateLeftThroughCarry (.r .h)) s

/-- `RL L` (R233). -/
def execRl_L (s : State) : StepOutcome := complete (modifyLoc rotateLeftThroughCarry (.r .l)) s

/-- `RL (HL)` (R234). -/
def execRl_atHL (s : State) : StepOutcome := complete (modifyLoc rotateLeftThroughCarry .atHL) s

/-- `RL A` (R233). -/
def execRl_A (s : State) : StepOutcome := complete (modifyLoc rotateLeftThroughCarry (.r .a)) s

/-- `RR B` (R235). -/
def execRr_B (s : State) : StepOutcome := complete (modifyLoc rotateRightThroughCarry (.r .b)) s

/-- `RR C` (R235). -/
def execRr_C (s : State) : StepOutcome := complete (modifyLoc rotateRightThroughCarry (.r .c)) s

/-- `RR D` (R235). -/
def execRr_D (s : State) : StepOutcome := complete (modifyLoc rotateRightThroughCarry (.r .d)) s

/-- `RR E` (R235). -/
def execRr_E (s : State) : StepOutcome := complete (modifyLoc rotateRightThroughCarry (.r .e)) s

/-- `RR H` (R235). -/
def execRr_H (s : State) : StepOutcome := complete (modifyLoc rotateRightThroughCarry (.r .h)) s

/-- `RR L` (R235). -/
def execRr_L (s : State) : StepOutcome := complete (modifyLoc rotateRightThroughCarry (.r .l)) s

/-- `RR (HL)` (R236). -/
def execRr_atHL (s : State) : StepOutcome := complete (modifyLoc rotateRightThroughCarry .atHL) s

/-- `RR A` (R235). -/
def execRr_A (s : State) : StepOutcome := complete (modifyLoc rotateRightThroughCarry (.r .a)) s

/-- `BIT 0,B` (R237). -/
def execBit_0_B (s : State) : StepOutcome := complete (bitLoc 0 (.r .b)) s

/-- `BIT 0,C` (R237). -/
def execBit_0_C (s : State) : StepOutcome := complete (bitLoc 0 (.r .c)) s

/-- `BIT 0,D` (R237). -/
def execBit_0_D (s : State) : StepOutcome := complete (bitLoc 0 (.r .d)) s

/-- `BIT 0,E` (R237). -/
def execBit_0_E (s : State) : StepOutcome := complete (bitLoc 0 (.r .e)) s

/-- `BIT 0,H` (R237). -/
def execBit_0_H (s : State) : StepOutcome := complete (bitLoc 0 (.r .h)) s

/-- `BIT 0,L` (R237). -/
def execBit_0_L (s : State) : StepOutcome := complete (bitLoc 0 (.r .l)) s

/-- `BIT 0,(HL)` (R238). -/
def execBit_0_atHL (s : State) : StepOutcome := complete (bitLoc 0 .atHL) s

/-- `BIT 0,A` (R237). -/
def execBit_0_A (s : State) : StepOutcome := complete (bitLoc 0 (.r .a)) s

/-- `BIT 1,B` (R237). -/
def execBit_1_B (s : State) : StepOutcome := complete (bitLoc 1 (.r .b)) s

/-- `BIT 1,C` (R237). -/
def execBit_1_C (s : State) : StepOutcome := complete (bitLoc 1 (.r .c)) s

/-- `BIT 1,D` (R237). -/
def execBit_1_D (s : State) : StepOutcome := complete (bitLoc 1 (.r .d)) s

/-- `BIT 1,E` (R237). -/
def execBit_1_E (s : State) : StepOutcome := complete (bitLoc 1 (.r .e)) s

/-- `BIT 1,H` (R237). -/
def execBit_1_H (s : State) : StepOutcome := complete (bitLoc 1 (.r .h)) s

/-- `BIT 1,L` (R237). -/
def execBit_1_L (s : State) : StepOutcome := complete (bitLoc 1 (.r .l)) s

/-- `BIT 1,(HL)` (R238). -/
def execBit_1_atHL (s : State) : StepOutcome := complete (bitLoc 1 .atHL) s

/-- `BIT 1,A` (R237). -/
def execBit_1_A (s : State) : StepOutcome := complete (bitLoc 1 (.r .a)) s

/-- `BIT 2,B` (R237). -/
def execBit_2_B (s : State) : StepOutcome := complete (bitLoc 2 (.r .b)) s

/-- `BIT 2,C` (R237). -/
def execBit_2_C (s : State) : StepOutcome := complete (bitLoc 2 (.r .c)) s

/-- `BIT 2,D` (R237). -/
def execBit_2_D (s : State) : StepOutcome := complete (bitLoc 2 (.r .d)) s

/-- `BIT 2,E` (R237). -/
def execBit_2_E (s : State) : StepOutcome := complete (bitLoc 2 (.r .e)) s

/-- `BIT 2,H` (R237). -/
def execBit_2_H (s : State) : StepOutcome := complete (bitLoc 2 (.r .h)) s

/-- `BIT 2,L` (R237). -/
def execBit_2_L (s : State) : StepOutcome := complete (bitLoc 2 (.r .l)) s

/-- `BIT 2,(HL)` (R238). -/
def execBit_2_atHL (s : State) : StepOutcome := complete (bitLoc 2 .atHL) s

/-- `BIT 2,A` (R237). -/
def execBit_2_A (s : State) : StepOutcome := complete (bitLoc 2 (.r .a)) s

/-- `BIT 3,B` (R237). -/
def execBit_3_B (s : State) : StepOutcome := complete (bitLoc 3 (.r .b)) s

/-- `BIT 3,C` (R237). -/
def execBit_3_C (s : State) : StepOutcome := complete (bitLoc 3 (.r .c)) s

/-- `BIT 3,D` (R237). -/
def execBit_3_D (s : State) : StepOutcome := complete (bitLoc 3 (.r .d)) s

/-- `BIT 3,E` (R237). -/
def execBit_3_E (s : State) : StepOutcome := complete (bitLoc 3 (.r .e)) s

/-- `BIT 3,H` (R237). -/
def execBit_3_H (s : State) : StepOutcome := complete (bitLoc 3 (.r .h)) s

/-- `BIT 3,L` (R237). -/
def execBit_3_L (s : State) : StepOutcome := complete (bitLoc 3 (.r .l)) s

/-- `BIT 3,(HL)` (R238). -/
def execBit_3_atHL (s : State) : StepOutcome := complete (bitLoc 3 .atHL) s

/-- `BIT 3,A` (R237). -/
def execBit_3_A (s : State) : StepOutcome := complete (bitLoc 3 (.r .a)) s

/-- `BIT 4,B` (R237). -/
def execBit_4_B (s : State) : StepOutcome := complete (bitLoc 4 (.r .b)) s

/-- `BIT 4,C` (R237). -/
def execBit_4_C (s : State) : StepOutcome := complete (bitLoc 4 (.r .c)) s

/-- `BIT 4,D` (R237). -/
def execBit_4_D (s : State) : StepOutcome := complete (bitLoc 4 (.r .d)) s

/-- `BIT 4,E` (R237). -/
def execBit_4_E (s : State) : StepOutcome := complete (bitLoc 4 (.r .e)) s

/-- `BIT 4,H` (R237). -/
def execBit_4_H (s : State) : StepOutcome := complete (bitLoc 4 (.r .h)) s

/-- `BIT 4,L` (R237). -/
def execBit_4_L (s : State) : StepOutcome := complete (bitLoc 4 (.r .l)) s

/-- `BIT 4,(HL)` (R238). -/
def execBit_4_atHL (s : State) : StepOutcome := complete (bitLoc 4 .atHL) s

/-- `BIT 4,A` (R237). -/
def execBit_4_A (s : State) : StepOutcome := complete (bitLoc 4 (.r .a)) s

/-- `BIT 5,B` (R237). -/
def execBit_5_B (s : State) : StepOutcome := complete (bitLoc 5 (.r .b)) s

/-- `BIT 5,C` (R237). -/
def execBit_5_C (s : State) : StepOutcome := complete (bitLoc 5 (.r .c)) s

/-- `BIT 5,D` (R237). -/
def execBit_5_D (s : State) : StepOutcome := complete (bitLoc 5 (.r .d)) s

/-- `BIT 5,E` (R237). -/
def execBit_5_E (s : State) : StepOutcome := complete (bitLoc 5 (.r .e)) s

/-- `BIT 5,H` (R237). -/
def execBit_5_H (s : State) : StepOutcome := complete (bitLoc 5 (.r .h)) s

/-- `BIT 5,L` (R237). -/
def execBit_5_L (s : State) : StepOutcome := complete (bitLoc 5 (.r .l)) s

/-- `BIT 5,(HL)` (R238). -/
def execBit_5_atHL (s : State) : StepOutcome := complete (bitLoc 5 .atHL) s

/-- `BIT 5,A` (R237). -/
def execBit_5_A (s : State) : StepOutcome := complete (bitLoc 5 (.r .a)) s

/-- `BIT 6,B` (R237). -/
def execBit_6_B (s : State) : StepOutcome := complete (bitLoc 6 (.r .b)) s

/-- `BIT 6,C` (R237). -/
def execBit_6_C (s : State) : StepOutcome := complete (bitLoc 6 (.r .c)) s

/-- `BIT 6,D` (R237). -/
def execBit_6_D (s : State) : StepOutcome := complete (bitLoc 6 (.r .d)) s

/-- `BIT 6,E` (R237). -/
def execBit_6_E (s : State) : StepOutcome := complete (bitLoc 6 (.r .e)) s

/-- `BIT 6,H` (R237). -/
def execBit_6_H (s : State) : StepOutcome := complete (bitLoc 6 (.r .h)) s

/-- `BIT 6,L` (R237). -/
def execBit_6_L (s : State) : StepOutcome := complete (bitLoc 6 (.r .l)) s

/-- `BIT 6,(HL)` (R238). -/
def execBit_6_atHL (s : State) : StepOutcome := complete (bitLoc 6 .atHL) s

/-- `BIT 6,A` (R237). -/
def execBit_6_A (s : State) : StepOutcome := complete (bitLoc 6 (.r .a)) s

/-- `BIT 7,B` (R237). -/
def execBit_7_B (s : State) : StepOutcome := complete (bitLoc 7 (.r .b)) s

/-- `BIT 7,C` (R237). -/
def execBit_7_C (s : State) : StepOutcome := complete (bitLoc 7 (.r .c)) s

/-- `BIT 7,D` (R237). -/
def execBit_7_D (s : State) : StepOutcome := complete (bitLoc 7 (.r .d)) s

/-- `BIT 7,E` (R237). -/
def execBit_7_E (s : State) : StepOutcome := complete (bitLoc 7 (.r .e)) s

/-- `BIT 7,H` (R237). -/
def execBit_7_H (s : State) : StepOutcome := complete (bitLoc 7 (.r .h)) s

/-- `BIT 7,L` (R237). -/
def execBit_7_L (s : State) : StepOutcome := complete (bitLoc 7 (.r .l)) s

/-- `BIT 7,(HL)` (R238). -/
def execBit_7_atHL (s : State) : StepOutcome := complete (bitLoc 7 .atHL) s

/-- `BIT 7,A` (R237). -/
def execBit_7_A (s : State) : StepOutcome := complete (bitLoc 7 (.r .a)) s

end Sys2Proof.Machine
end

