-- ==== Sys2Proof/Machine/Escape.lean ====
section
/-! DEFINITION. The escape byte (30_encoding.md R93, R94). Decoding it never yields an instruction, so `step` never runs this
constructor; its meaning is what the spec has a step do once the escape byte is fetched: the following byte is fetched and
looked up in the extended table, the trace record is emitted, and the entry is executed (40_step_cycle.md R120 steps 3 to 5;
log 13). -/

namespace Sys2Proof.Machine

/-- The rotate kind of a code (R92). -/
def rotOfCode (y : BitVec 3) : Rot :=
  match y.toNat with
  | 0 => .rlc
  | 1 => .rrc
  | 2 => .rl
  | _ => .rr

/-- What an extended byte does, by its fields `x = op[7:6]`, `y = op[5:3]`, `z = op[2:0]` (R92, R96): block 0 with `y` 0 to 3 is
a rotate, block 1 a bit test, everything else is absent. -/
def extendedBody (b1 : Byte) : Option (Exec Unit) :=
  let y := b1.extractLsb' 3 3
  let o := Loc.ofCode (b1.extractLsb' 0 3)
  if b1.extractLsb' 6 2 = 0 then
    if y.toNat < 4 then some (modifyLoc (rotateHelper (rotOfCode y)) o) else none
  else if b1.extractLsb' 6 2 = 1 then some (bitLoc y.toFin o)
  else none

/-- A step from the point where the escape byte has been fetched. The record's address is the escape byte's (D16). -/
def runEscaped : Exec Unit := do
  let escapePc ← view (fun s => s.pc - 1#16)
  let b1 ← fetch8
  match extendedEntry b1, extendedBody b1 with
  | some e, some body => do
    update (fun s => s.addTrace ⟨escapePc, b1, e.mnemonic, true⟩)
    body
  | _, _ => raise (.unimplementedOpcode b1 true)

/-- `PREFIX` (R93). -/
def execEscape (s : State) : StepOutcome := complete runEscaped s

end Sys2Proof.Machine
end

