-- ==== Sys2Proof/Machine/Loads.lean ====
section
/-! DEFINITION. Loads and stores (41_loads.md R139 to R161): the shared moves, then each instruction. No flag is written. -/

namespace Sys2Proof.Machine

/-- `x[r] <- x[r']` (R140). -/
def copyReg (dst src : GReg) : Exec Unit := do
  let v ← readReg src.reg
  writeReg dst.reg v

/-- `x[r] <- MemRead(addr, 1)` (R141, R145, R146, R154, R156, R158). -/
def loadReg (dst : GReg) (addrOf : State → Word) : Exec Unit := do
  let addr ← view addrOf
  let v ← readByte addr
  writeReg dst.reg v

/-- `MemWrite(addr, 1, x[r])` (R142, R147, R148, R153, R155, R157). -/
def storeReg (addrOf : State → Word) (src : GReg) : Exec Unit := do
  let addr ← view addrOf
  let v ← readReg src.reg
  writeByte addr v

/-- `x[r] <- n` (R143). -/
def loadImm (dst : GReg) (n : Byte) : Exec Unit := writeReg dst.reg n

/-- `MemWrite(addr, 1, n)` (R144). -/
def storeImm (addrOf : State → Word) (n : Byte) : Exec Unit := do
  let addr ← view addrOf
  writeByte addr n

/-- `x[A] <- MemRead(x[HL], 1)`, then `HL` stepped (R151, R152). -/
def loadAStep (k : HLStep) : Exec Unit := do
  let addr ← view State.hl
  let v ← readByte addr
  writeReg .a v
  update (fun s => s.set16 .hl (stepHL k s.hl))

/-- `MemWrite(x[HL], 1, x[A])`, then `HL` stepped (R149, R150). -/
def storeAStep (k : HLStep) : Exec Unit := do
  let addr ← view State.hl
  let v ← readReg .a
  writeByte addr v
  update (fun s => s.set16 .hl (stepHL k s.hl))

/-- `LD rr,nn` (R159). -/
def loadRpImm (p : Rp) (nn : Word) : Exec Unit := update (fun s => s.setRp p nn)

/-- `MemWrite(nn, 2, sp)` (R160). -/
def storeSP (nn : Word) : Exec Unit := do
  let v ← view State.sp
  writeWord nn v

/-- `sp <- x[HL]` (R161). -/
def loadSPFromHL : Exec Unit := update (fun s => s.setSp s.hl)

/-- `LD BC,nn` (R159). -/
def execLd_BC_nn (nn : Word) (s : State) : StepOutcome := complete (loadRpImm .bc nn) s

/-- `LD (BC),A` (R147). -/
def execLd_atBC_A (s : State) : StepOutcome := complete (storeReg (AMem.addr .atBC) .a) s

/-- `LD B,n` (R143). -/
def execLd_B_n (n : Byte) (s : State) : StepOutcome := complete (loadImm .b n) s

/-- `LD (nn),SP` (R160). -/
def execLd_atnn_SP (nn : Word) (s : State) : StepOutcome := complete (storeSP nn) s

/-- `LD A,(BC)` (R145). -/
def execLd_A_atBC (s : State) : StepOutcome := complete (loadReg .a (AMem.addr .atBC)) s

/-- `LD C,n` (R143). -/
def execLd_C_n (n : Byte) (s : State) : StepOutcome := complete (loadImm .c n) s

/-- `LD DE,nn` (R159). -/
def execLd_DE_nn (nn : Word) (s : State) : StepOutcome := complete (loadRpImm .de nn) s

/-- `LD (DE),A` (R148). -/
def execLd_atDE_A (s : State) : StepOutcome := complete (storeReg (AMem.addr .atDE) .a) s

/-- `LD D,n` (R143). -/
def execLd_D_n (n : Byte) (s : State) : StepOutcome := complete (loadImm .d n) s

/-- `LD A,(DE)` (R146). -/
def execLd_A_atDE (s : State) : StepOutcome := complete (loadReg .a (AMem.addr .atDE)) s

/-- `LD E,n` (R143). -/
def execLd_E_n (n : Byte) (s : State) : StepOutcome := complete (loadImm .e n) s

/-- `LD HL,nn` (R159). -/
def execLd_HL_nn (nn : Word) (s : State) : StepOutcome := complete (loadRpImm .hl nn) s

/-- `LD (HL+),A` (R149). -/
def execLd_atHLplus_A (s : State) : StepOutcome := complete (storeAStep .plus) s

/-- `LD H,n` (R143). -/
def execLd_H_n (n : Byte) (s : State) : StepOutcome := complete (loadImm .h n) s

/-- `LD A,(HL+)` (R151). -/
def execLd_A_atHLplus (s : State) : StepOutcome := complete (loadAStep .plus) s

/-- `LD L,n` (R143). -/
def execLd_L_n (n : Byte) (s : State) : StepOutcome := complete (loadImm .l n) s

/-- `LD SP,nn` (R159). -/
def execLd_SP_nn (nn : Word) (s : State) : StepOutcome := complete (loadRpImm .sp nn) s

/-- `LD (HL-),A` (R150). -/
def execLd_atHLminus_A (s : State) : StepOutcome := complete (storeAStep .minus) s

/-- `LD (HL),n` (R144). -/
def execLd_atHL_n (n : Byte) (s : State) : StepOutcome := complete (storeImm State.hl n) s

/-- `LD A,(HL-)` (R152). -/
def execLd_A_atHLminus (s : State) : StepOutcome := complete (loadAStep .minus) s

/-- `LD A,n` (R143). -/
def execLd_A_n (n : Byte) (s : State) : StepOutcome := complete (loadImm .a n) s

/-- `LD B,B` (R140). -/
def execLd_B_B (s : State) : StepOutcome := complete (copyReg .b .b) s

/-- `LD B,C` (R140). -/
def execLd_B_C (s : State) : StepOutcome := complete (copyReg .b .c) s

/-- `LD B,D` (R140). -/
def execLd_B_D (s : State) : StepOutcome := complete (copyReg .b .d) s

/-- `LD B,E` (R140). -/
def execLd_B_E (s : State) : StepOutcome := complete (copyReg .b .e) s

/-- `LD B,H` (R140). -/
def execLd_B_H (s : State) : StepOutcome := complete (copyReg .b .h) s

/-- `LD B,L` (R140). -/
def execLd_B_L (s : State) : StepOutcome := complete (copyReg .b .l) s

/-- `LD B,(HL)` (R141). -/
def execLd_B_atHL (s : State) : StepOutcome := complete (loadReg .b State.hl) s

/-- `LD B,A` (R140). -/
def execLd_B_A (s : State) : StepOutcome := complete (copyReg .b .a) s

/-- `LD C,B` (R140). -/
def execLd_C_B (s : State) : StepOutcome := complete (copyReg .c .b) s

/-- `LD C,C` (R140). -/
def execLd_C_C (s : State) : StepOutcome := complete (copyReg .c .c) s

/-- `LD C,D` (R140). -/
def execLd_C_D (s : State) : StepOutcome := complete (copyReg .c .d) s

/-- `LD C,E` (R140). -/
def execLd_C_E (s : State) : StepOutcome := complete (copyReg .c .e) s

/-- `LD C,H` (R140). -/
def execLd_C_H (s : State) : StepOutcome := complete (copyReg .c .h) s

/-- `LD C,L` (R140). -/
def execLd_C_L (s : State) : StepOutcome := complete (copyReg .c .l) s

/-- `LD C,(HL)` (R141). -/
def execLd_C_atHL (s : State) : StepOutcome := complete (loadReg .c State.hl) s

/-- `LD C,A` (R140). -/
def execLd_C_A (s : State) : StepOutcome := complete (copyReg .c .a) s

/-- `LD D,B` (R140). -/
def execLd_D_B (s : State) : StepOutcome := complete (copyReg .d .b) s

/-- `LD D,C` (R140). -/
def execLd_D_C (s : State) : StepOutcome := complete (copyReg .d .c) s

/-- `LD D,D` (R140). -/
def execLd_D_D (s : State) : StepOutcome := complete (copyReg .d .d) s

/-- `LD D,E` (R140). -/
def execLd_D_E (s : State) : StepOutcome := complete (copyReg .d .e) s

/-- `LD D,H` (R140). -/
def execLd_D_H (s : State) : StepOutcome := complete (copyReg .d .h) s

/-- `LD D,L` (R140). -/
def execLd_D_L (s : State) : StepOutcome := complete (copyReg .d .l) s

/-- `LD D,(HL)` (R141). -/
def execLd_D_atHL (s : State) : StepOutcome := complete (loadReg .d State.hl) s

/-- `LD D,A` (R140). -/
def execLd_D_A (s : State) : StepOutcome := complete (copyReg .d .a) s

/-- `LD E,B` (R140). -/
def execLd_E_B (s : State) : StepOutcome := complete (copyReg .e .b) s

/-- `LD E,C` (R140). -/
def execLd_E_C (s : State) : StepOutcome := complete (copyReg .e .c) s

/-- `LD E,D` (R140). -/
def execLd_E_D (s : State) : StepOutcome := complete (copyReg .e .d) s

/-- `LD E,E` (R140). -/
def execLd_E_E (s : State) : StepOutcome := complete (copyReg .e .e) s

/-- `LD E,H` (R140). -/
def execLd_E_H (s : State) : StepOutcome := complete (copyReg .e .h) s

/-- `LD E,L` (R140). -/
def execLd_E_L (s : State) : StepOutcome := complete (copyReg .e .l) s

/-- `LD E,(HL)` (R141). -/
def execLd_E_atHL (s : State) : StepOutcome := complete (loadReg .e State.hl) s

/-- `LD E,A` (R140). -/
def execLd_E_A (s : State) : StepOutcome := complete (copyReg .e .a) s

/-- `LD H,B` (R140). -/
def execLd_H_B (s : State) : StepOutcome := complete (copyReg .h .b) s

/-- `LD H,C` (R140). -/
def execLd_H_C (s : State) : StepOutcome := complete (copyReg .h .c) s

/-- `LD H,D` (R140). -/
def execLd_H_D (s : State) : StepOutcome := complete (copyReg .h .d) s

/-- `LD H,E` (R140). -/
def execLd_H_E (s : State) : StepOutcome := complete (copyReg .h .e) s

/-- `LD H,H` (R140). -/
def execLd_H_H (s : State) : StepOutcome := complete (copyReg .h .h) s

/-- `LD H,L` (R140). -/
def execLd_H_L (s : State) : StepOutcome := complete (copyReg .h .l) s

/-- `LD H,(HL)` (R141). -/
def execLd_H_atHL (s : State) : StepOutcome := complete (loadReg .h State.hl) s

/-- `LD H,A` (R140). -/
def execLd_H_A (s : State) : StepOutcome := complete (copyReg .h .a) s

/-- `LD L,B` (R140). -/
def execLd_L_B (s : State) : StepOutcome := complete (copyReg .l .b) s

/-- `LD L,C` (R140). -/
def execLd_L_C (s : State) : StepOutcome := complete (copyReg .l .c) s

/-- `LD L,D` (R140). -/
def execLd_L_D (s : State) : StepOutcome := complete (copyReg .l .d) s

/-- `LD L,E` (R140). -/
def execLd_L_E (s : State) : StepOutcome := complete (copyReg .l .e) s

/-- `LD L,H` (R140). -/
def execLd_L_H (s : State) : StepOutcome := complete (copyReg .l .h) s

/-- `LD L,L` (R140). -/
def execLd_L_L (s : State) : StepOutcome := complete (copyReg .l .l) s

/-- `LD L,(HL)` (R141). -/
def execLd_L_atHL (s : State) : StepOutcome := complete (loadReg .l State.hl) s

/-- `LD L,A` (R140). -/
def execLd_L_A (s : State) : StepOutcome := complete (copyReg .l .a) s

/-- `LD (HL),B` (R142). -/
def execLd_atHL_B (s : State) : StepOutcome := complete (storeReg State.hl .b) s

/-- `LD (HL),C` (R142). -/
def execLd_atHL_C (s : State) : StepOutcome := complete (storeReg State.hl .c) s

/-- `LD (HL),D` (R142). -/
def execLd_atHL_D (s : State) : StepOutcome := complete (storeReg State.hl .d) s

/-- `LD (HL),E` (R142). -/
def execLd_atHL_E (s : State) : StepOutcome := complete (storeReg State.hl .e) s

/-- `LD (HL),H` (R142). -/
def execLd_atHL_H (s : State) : StepOutcome := complete (storeReg State.hl .h) s

/-- `LD (HL),L` (R142). -/
def execLd_atHL_L (s : State) : StepOutcome := complete (storeReg State.hl .l) s

/-- `LD (HL),A` (R142). -/
def execLd_atHL_A (s : State) : StepOutcome := complete (storeReg State.hl .a) s

/-- `LD A,B` (R140). -/
def execLd_A_B (s : State) : StepOutcome := complete (copyReg .a .b) s

/-- `LD A,C` (R140). -/
def execLd_A_C (s : State) : StepOutcome := complete (copyReg .a .c) s

/-- `LD A,D` (R140). -/
def execLd_A_D (s : State) : StepOutcome := complete (copyReg .a .d) s

/-- `LD A,E` (R140). -/
def execLd_A_E (s : State) : StepOutcome := complete (copyReg .a .e) s

/-- `LD A,H` (R140). -/
def execLd_A_H (s : State) : StepOutcome := complete (copyReg .a .h) s

/-- `LD A,L` (R140). -/
def execLd_A_L (s : State) : StepOutcome := complete (copyReg .a .l) s

/-- `LD A,(HL)` (R141). -/
def execLd_A_atHL (s : State) : StepOutcome := complete (loadReg .a State.hl) s

/-- `LD A,A` (R140). -/
def execLd_A_A (s : State) : StepOutcome := complete (copyReg .a .a) s

/-- `LDH (n),A` (R155). -/
def execLdh_atn_A (n : Byte) (s : State) : StepOutcome := complete (storeReg (AMem.addr (.highN n)) .a) s

/-- `LD (C),A` (R157). -/
def execLd_atC_A (s : State) : StepOutcome := complete (storeReg (AMem.addr .highC) .a) s

/-- `LD (nn),A` (R153). -/
def execLd_atnn_A (nn : Word) (s : State) : StepOutcome := complete (storeReg (AMem.addr (.atNN nn)) .a) s

/-- `LDH A,(n)` (R156). -/
def execLdh_A_atn (n : Byte) (s : State) : StepOutcome := complete (loadReg .a (AMem.addr (.highN n))) s

/-- `LD A,(C)` (R158). -/
def execLd_A_atC (s : State) : StepOutcome := complete (loadReg .a (AMem.addr .highC)) s

/-- `LD SP,HL` (R161). -/
def execLd_SP_HL (s : State) : StepOutcome := complete loadSPFromHL s

/-- `LD A,(nn)` (R154). -/
def execLd_A_atnn (nn : Word) (s : State) : StepOutcome := complete (loadReg .a (AMem.addr (.atNN nn))) s

end Sys2Proof.Machine
end

