-- ==== Sys2Proof/Machine/Stack.lean ====
section
/-! DEFINITION. Stack, control transfer and no-operation (45_stack_control.md R242 to R251). -/

namespace Sys2Proof.Machine

/-- `PushWord(x[rr])` (R242). -/
def pushPair (p : Pair) : Exec Unit := do
  let v ← view (fun s => s.get16 p)
  pushWord v

/-- `v <- PopWord(); x[rr] <- v` (R243, R244): for `AF`, the low nibble of the low byte is discarded (10_state.md R23; D14, log
21). -/
def popPair (p : Pair) : Exec Unit := do
  let v ← popWord
  update (fun s => s.set16 p v)

/-- `if cond then pc <- (pc + sext_16(e)) mod 65536` (R246 to R248). `pc` is past the displacement byte (R245). -/
def jumpRelative (c : JumpCond) (e : Byte) : Exec Unit :=
  update (fun s => if JumpCond.holds c s then s.setPc (s.pc + sext16 e) else s)

/-- `PushWord(pc); pc <- nn` (R249). `pc` is past both operand bytes (D13). -/
def callAddr (nn : Word) : Exec Unit := do
  let pc ← view State.pc
  pushWord pc
  update (fun s => s.setPc nn)

/-- `pc <- PopWord()` (R250). -/
def returnFromCall : Exec Unit := do
  let v ← popWord
  update (fun s => s.setPc v)

/-- Nothing (R251). -/
def noOperation : Exec Unit := pure ()

/-- `NOP` (R251). -/
def execNop (s : State) : StepOutcome := complete noOperation s

/-- `JR e` (R246). -/
def execJr_e (e : Byte) (s : State) : StepOutcome := complete (jumpRelative .always e) s

/-- `JR NZ,e` (R247). -/
def execJr_NZ_e (e : Byte) (s : State) : StepOutcome := complete (jumpRelative .nz e) s

/-- `JR Z,e` (R248). -/
def execJr_Z_e (e : Byte) (s : State) : StepOutcome := complete (jumpRelative .z e) s

/-- `POP BC` (R243). -/
def execPop_BC (s : State) : StepOutcome := complete (popPair .bc) s

/-- `PUSH BC` (R242). -/
def execPush_BC (s : State) : StepOutcome := complete (pushPair .bc) s

/-- `RET` (R250). -/
def execRet (s : State) : StepOutcome := complete returnFromCall s

/-- `CALL nn` (R249). -/
def execCall_nn (nn : Word) (s : State) : StepOutcome := complete (callAddr nn) s

/-- `POP DE` (R243). -/
def execPop_DE (s : State) : StepOutcome := complete (popPair .de) s

/-- `PUSH DE` (R242). -/
def execPush_DE (s : State) : StepOutcome := complete (pushPair .de) s

/-- `POP HL` (R243). -/
def execPop_HL (s : State) : StepOutcome := complete (popPair .hl) s

/-- `PUSH HL` (R242). -/
def execPush_HL (s : State) : StepOutcome := complete (pushPair .hl) s

/-- `POP AF` (R244). -/
def execPop_AF (s : State) : StepOutcome := complete (popPair .af) s

/-- `PUSH AF` (R242). -/
def execPush_AF (s : State) : StepOutcome := complete (pushPair .af) s

end Sys2Proof.Machine
end

