-- ==== Sys2Proof/Machine/Cycle.lean ====
section
/-! DEFINITION. One step of a running machine (40_step_cycle.md R120): fetch, decode, trace, execute. `step` calls it. -/

namespace Sys2Proof.Machine

/-- Steps 1 to 3 of R120 and `Decode` of 30_encoding.md R94: the opcode byte, and after the escape a second byte, are fetched and
looked up; the answer is the trace record and the entry's form. -/
def fetchOpcode : Exec (TraceRecord × Form) := do
  let prevPc ← view State.pc
  let b0 ← fetch8
  match primaryCell b0 with
  | .absent => raise (.unimplementedOpcode b0 false)
  | .entry e => return (⟨prevPc, b0, e.mnemonic, false⟩, e.form)
  | .escape =>
    let b1 ← fetch8
    match extendedEntry b1 with
    | none => raise (.unimplementedOpcode b1 true)
    | some e => return (⟨prevPc, b1, e.mnemonic, true⟩, e.form)

/-- The operand bytes of an instruction, which its rule fetches before anything else (41_loads.md to 45_stack_control.md; log
15). -/
def fetchOperands : Form → Exec Instr
  | .op i => pure i
  | .opN mk => do
    let n ← fetch8
    return mk n
  | .opE mk => do
    let e ← fetch8
    return mk e
  | .opNN mk => do
    let nn ← fetch16
    return mk nn

/-- Steps 1 to 4 of R120 and the operand fetches of step 5: the record is emitted after decoding and before any of step 5
(R123). -/
def fetchInstr : Exec Instr := do
  let r ← fetchOpcode
  update (fun s => s.addTrace r.1)
  fetchOperands r.2

/-- One step with `status = Running` (R120). -/
def stepRunning (s : State) : StepOutcome :=
  match fetchInstr s with
  | .ok i t => exec i t
  | .error f t => takeFault f t

end Sys2Proof.Machine
end

