-- ==== Sys2Proof/Machine/Step.lean ====
section
/-! DEFINITION. The step of the machine, and placing an instruction where it fetches. -/

namespace Sys2Proof.Machine

/-- One `step` request: R120 with `status = Running`; in a faulted state nothing changes (40_step_cycle.md R124). -/
def step (s : State) : Host.Outcome State Fault Refusal :=
  match s.status with
  | .running => stepRunning s
  | .faulted _ => .next s

/-- The state with an instruction's bytes, in the table's numbering, where `step` fetches next, and `Running`. At a `pc` in ROM
this is the preload of 20_memory.md R77: the instruction and zeros are ROM's contents where the host had given none (log 3). -/
def State.withFetchWord (s : State) (nbits w : Nat) : State :=
  (s.preload s.pc (tableBytes nbits w)).setStatus .running

end Sys2Proof.Machine
end

