-- ==== Sys2Proof/Machine/Forms.lean ====
section
/-! DEFINITION. The constructors of `Instr` by the instruction forms of the spec's rules: one function per form, from the
form's operands to the constructor. Statements quantify over operands with these. -/

namespace Sys2Proof

/-- `LD r,r'` (R140): destination, source. -/
def Instr.ldRR : GReg → GReg → Instr
  | .b, .b => .ld_B_B
  | .b, .c => .ld_B_C
  | .b, .d => .ld_B_D
  | .b, .e => .ld_B_E
  | .b, .h => .ld_B_H
  | .b, .l => .ld_B_L
  | .b, .a => .ld_B_A
  | .c, .b => .ld_C_B
  | .c, .c => .ld_C_C
  | .c, .d => .ld_C_D
  | .c, .e => .ld_C_E
  | .c, .h => .ld_C_H
  | .c, .l => .ld_C_L
  | .c, .a => .ld_C_A
  | .d, .b => .ld_D_B
  | .d, .c => .ld_D_C
  | .d, .d => .ld_D_D
  | .d, .e => .ld_D_E
  | .d, .h => .ld_D_H
  | .d, .l => .ld_D_L
  | .d, .a => .ld_D_A
  | .e, .b => .ld_E_B
  | .e, .c => .ld_E_C
  | .e, .d => .ld_E_D
  | .e, .e => .ld_E_E
  | .e, .h => .ld_E_H
  | .e, .l => .ld_E_L
  | .e, .a => .ld_E_A
  | .h, .b => .ld_H_B
  | .h, .c => .ld_H_C
  | .h, .d => .ld_H_D
  | .h, .e => .ld_H_E
  | .h, .h => .ld_H_H
  | .h, .l => .ld_H_L
  | .h, .a => .ld_H_A
  | .l, .b => .ld_L_B
  | .l, .c => .ld_L_C
  | .l, .d => .ld_L_D
  | .l, .e => .ld_L_E
  | .l, .h => .ld_L_H
  | .l, .l => .ld_L_L
  | .l, .a => .ld_L_A
  | .a, .b => .ld_A_B
  | .a, .c => .ld_A_C
  | .a, .d => .ld_A_D
  | .a, .e => .ld_A_E
  | .a, .h => .ld_A_H
  | .a, .l => .ld_A_L
  | .a, .a => .ld_A_A

/-- `LD r,(HL)` (R141). -/
def Instr.ldRAtHL : GReg → Instr
  | .b => .ld_B_atHL
  | .c => .ld_C_atHL
  | .d => .ld_D_atHL
  | .e => .ld_E_atHL
  | .h => .ld_H_atHL
  | .l => .ld_L_atHL
  | .a => .ld_A_atHL

/-- `LD (HL),r` (R142). -/
def Instr.ldAtHLR : GReg → Instr
  | .b => .ld_atHL_B
  | .c => .ld_atHL_C
  | .d => .ld_atHL_D
  | .e => .ld_atHL_E
  | .h => .ld_atHL_H
  | .l => .ld_atHL_L
  | .a => .ld_atHL_A

/-- `LD r,n` (R143). -/
def Instr.ldRN (g : GReg) (n : Byte) : Instr :=
  match g with
  | .b => .ld_B_n n
  | .c => .ld_C_n n
  | .d => .ld_D_n n
  | .e => .ld_E_n n
  | .h => .ld_H_n n
  | .l => .ld_L_n n
  | .a => .ld_A_n n

/-- The loads of `A` from `(BC)`, `(DE)`, `(nn)`, `(n)` and `(C)` (R145, R146, R154, R156, R158). -/
def Instr.ldAMem : AMem → Instr
  | .atBC => .ld_A_atBC
  | .atDE => .ld_A_atDE
  | .atNN nn => .ld_A_atnn nn
  | .highN n => .ldh_A_atn n
  | .highC => .ld_A_atC

/-- The stores of `A` to the same operands (R147, R148, R153, R155, R157). -/
def Instr.ldMemA : AMem → Instr
  | .atBC => .ld_atBC_A
  | .atDE => .ld_atDE_A
  | .atNN nn => .ld_atnn_A nn
  | .highN n => .ldh_atn_A n
  | .highC => .ld_atC_A

/-- `LD A,(HL+)` and `LD A,(HL-)` (R151, R152). -/
def Instr.ldAStep : HLStep → Instr
  | .plus => .ld_A_atHLplus
  | .minus => .ld_A_atHLminus

/-- `LD (HL+),A` and `LD (HL-),A` (R149, R150). -/
def Instr.ldStepA : HLStep → Instr
  | .plus => .ld_atHLplus_A
  | .minus => .ld_atHLminus_A

/-- `LD rr,nn` (R159). -/
def Instr.ldRpNN (p : Rp) (nn : Word) : Instr :=
  match p with
  | .bc => .ld_BC_nn nn
  | .de => .ld_DE_nn nn
  | .hl => .ld_HL_nn nn
  | .sp => .ld_SP_nn nn

/-- `INC r` and `INC (HL)` (R187, R188). -/
def Instr.incLoc : Loc → Instr
  | .r .b => .inc_B
  | .r .c => .inc_C
  | .r .d => .inc_D
  | .r .e => .inc_E
  | .r .h => .inc_H
  | .r .l => .inc_L
  | .r .a => .inc_A
  | .atHL => .inc_atHL

/-- `DEC r` and `DEC (HL)` (R189, R190). -/
def Instr.decLoc : Loc → Instr
  | .r .b => .dec_B
  | .r .c => .dec_C
  | .r .d => .dec_D
  | .r .e => .dec_E
  | .r .h => .dec_H
  | .r .l => .dec_L
  | .r .a => .dec_A
  | .atHL => .dec_atHL

/-- `ADD A,s` (R191 to R193): the operand `s` is a register, `(HL)` or an immediate. -/
def Instr.addA : Src → Instr
  | .r .b => .add_A_B
  | .r .c => .add_A_C
  | .r .d => .add_A_D
  | .r .e => .add_A_E
  | .r .h => .add_A_H
  | .r .l => .add_A_L
  | .r .a => .add_A_A
  | .atHL => .add_A_atHL
  | .n v => .add_A_n v

/-- `SUB s` (R194 to R196): the operand `s` is a register, `(HL)` or an immediate. -/
def Instr.subA : Src → Instr
  | .r .b => .sub_B
  | .r .c => .sub_C
  | .r .d => .sub_D
  | .r .e => .sub_E
  | .r .h => .sub_H
  | .r .l => .sub_L
  | .r .a => .sub_A
  | .atHL => .sub_atHL
  | .n v => .sub_n v

/-- `SBC A,s` (R197 to R199): the operand `s` is a register, `(HL)` or an immediate. -/
def Instr.sbcA : Src → Instr
  | .r .b => .sbc_A_B
  | .r .c => .sbc_A_C
  | .r .d => .sbc_A_D
  | .r .e => .sbc_A_E
  | .r .h => .sbc_A_H
  | .r .l => .sbc_A_L
  | .r .a => .sbc_A_A
  | .atHL => .sbc_A_atHL
  | .n v => .sbc_A_n v

/-- `XOR s` (R200 to R202): the operand `s` is a register, `(HL)` or an immediate. -/
def Instr.xorA : Src → Instr
  | .r .b => .xor_B
  | .r .c => .xor_C
  | .r .d => .xor_D
  | .r .e => .xor_E
  | .r .h => .xor_H
  | .r .l => .xor_L
  | .r .a => .xor_A
  | .atHL => .xor_atHL
  | .n v => .xor_n v

/-- `CP s` (R203 to R205): the operand `s` is a register, `(HL)` or an immediate. -/
def Instr.cpA : Src → Instr
  | .r .b => .cp_B
  | .r .c => .cp_C
  | .r .d => .cp_D
  | .r .e => .cp_E
  | .r .h => .cp_H
  | .r .l => .cp_L
  | .r .a => .cp_A
  | .atHL => .cp_atHL
  | .n v => .cp_n v

/-- The five operations on `A` and an operand (42_alu8.md). -/
def Instr.alu : AluOp → Src → Instr
  | .add => Instr.addA
  | .sub => Instr.subA
  | .sbc => Instr.sbcA
  | .xor => Instr.xorA
  | .cp => Instr.cpA

/-- `ADD HL,rr` (R212). -/
def Instr.addHL : Rp → Instr
  | .bc => .add_HL_BC
  | .de => .add_HL_DE
  | .hl => .add_HL_HL
  | .sp => .add_HL_SP

/-- `INC rr` (R213). -/
def Instr.incRp : Rp → Instr
  | .bc => .inc_BC
  | .de => .inc_DE
  | .hl => .inc_HL
  | .sp => .inc_SP

/-- `DEC rr` (R214). -/
def Instr.decRp : Rp → Instr
  | .bc => .dec_BC
  | .de => .dec_DE
  | .hl => .dec_HL
  | .sp => .dec_SP

/-- `RLCA`, `RRCA`, `RLA`, `RRA` (R225 to R228). -/
def Instr.rotA : Rot → Instr
  | .rlc => .rlca
  | .rrc => .rrca
  | .rl => .rla
  | .rr => .rra

/-- `RLC s`, `RRC s`, `RL s`, `RR s` on a register or `(HL)` (R229 to R236). -/
def Instr.rotLoc : Rot → Loc → Instr
  | .rlc, .r .b => .rlc_B
  | .rlc, .r .c => .rlc_C
  | .rlc, .r .d => .rlc_D
  | .rlc, .r .e => .rlc_E
  | .rlc, .r .h => .rlc_H
  | .rlc, .r .l => .rlc_L
  | .rlc, .r .a => .rlc_A
  | .rlc, .atHL => .rlc_atHL
  | .rrc, .r .b => .rrc_B
  | .rrc, .r .c => .rrc_C
  | .rrc, .r .d => .rrc_D
  | .rrc, .r .e => .rrc_E
  | .rrc, .r .h => .rrc_H
  | .rrc, .r .l => .rrc_L
  | .rrc, .r .a => .rrc_A
  | .rrc, .atHL => .rrc_atHL
  | .rl, .r .b => .rl_B
  | .rl, .r .c => .rl_C
  | .rl, .r .d => .rl_D
  | .rl, .r .e => .rl_E
  | .rl, .r .h => .rl_H
  | .rl, .r .l => .rl_L
  | .rl, .r .a => .rl_A
  | .rl, .atHL => .rl_atHL
  | .rr, .r .b => .rr_B
  | .rr, .r .c => .rr_C
  | .rr, .r .d => .rr_D
  | .rr, .r .e => .rr_E
  | .rr, .r .h => .rr_H
  | .rr, .r .l => .rr_L
  | .rr, .r .a => .rr_A
  | .rr, .atHL => .rr_atHL

/-- `BIT b,r` and `BIT b,(HL)` (R237, R238). -/
def Instr.bitLoc : Fin 8 → Loc → Instr
  | 0, .r .b => .bit_0_B
  | 0, .r .c => .bit_0_C
  | 0, .r .d => .bit_0_D
  | 0, .r .e => .bit_0_E
  | 0, .r .h => .bit_0_H
  | 0, .r .l => .bit_0_L
  | 0, .r .a => .bit_0_A
  | 0, .atHL => .bit_0_atHL
  | 1, .r .b => .bit_1_B
  | 1, .r .c => .bit_1_C
  | 1, .r .d => .bit_1_D
  | 1, .r .e => .bit_1_E
  | 1, .r .h => .bit_1_H
  | 1, .r .l => .bit_1_L
  | 1, .r .a => .bit_1_A
  | 1, .atHL => .bit_1_atHL
  | 2, .r .b => .bit_2_B
  | 2, .r .c => .bit_2_C
  | 2, .r .d => .bit_2_D
  | 2, .r .e => .bit_2_E
  | 2, .r .h => .bit_2_H
  | 2, .r .l => .bit_2_L
  | 2, .r .a => .bit_2_A
  | 2, .atHL => .bit_2_atHL
  | 3, .r .b => .bit_3_B
  | 3, .r .c => .bit_3_C
  | 3, .r .d => .bit_3_D
  | 3, .r .e => .bit_3_E
  | 3, .r .h => .bit_3_H
  | 3, .r .l => .bit_3_L
  | 3, .r .a => .bit_3_A
  | 3, .atHL => .bit_3_atHL
  | 4, .r .b => .bit_4_B
  | 4, .r .c => .bit_4_C
  | 4, .r .d => .bit_4_D
  | 4, .r .e => .bit_4_E
  | 4, .r .h => .bit_4_H
  | 4, .r .l => .bit_4_L
  | 4, .r .a => .bit_4_A
  | 4, .atHL => .bit_4_atHL
  | 5, .r .b => .bit_5_B
  | 5, .r .c => .bit_5_C
  | 5, .r .d => .bit_5_D
  | 5, .r .e => .bit_5_E
  | 5, .r .h => .bit_5_H
  | 5, .r .l => .bit_5_L
  | 5, .r .a => .bit_5_A
  | 5, .atHL => .bit_5_atHL
  | 6, .r .b => .bit_6_B
  | 6, .r .c => .bit_6_C
  | 6, .r .d => .bit_6_D
  | 6, .r .e => .bit_6_E
  | 6, .r .h => .bit_6_H
  | 6, .r .l => .bit_6_L
  | 6, .r .a => .bit_6_A
  | 6, .atHL => .bit_6_atHL
  | 7, .r .b => .bit_7_B
  | 7, .r .c => .bit_7_C
  | 7, .r .d => .bit_7_D
  | 7, .r .e => .bit_7_E
  | 7, .r .h => .bit_7_H
  | 7, .r .l => .bit_7_L
  | 7, .r .a => .bit_7_A
  | 7, .atHL => .bit_7_atHL

/-- `PUSH rr` (R242). -/
def Instr.push : Pair → Instr
  | .bc => .push_BC
  | .de => .push_DE
  | .hl => .push_HL
  | .af => .push_AF

/-- `POP rr` and `POP AF` (R243, R244). -/
def Instr.pop : Pair → Instr
  | .bc => .pop_BC
  | .de => .pop_DE
  | .hl => .pop_HL
  | .af => .pop_AF

/-- `JR e`, `JR NZ,e`, `JR Z,e` (R246 to R248). -/
def Instr.jr (c : JumpCond) (e : Byte) : Instr :=
  match c with
  | .always => .jr_e e
  | .nz => .jr_NZ_e e
  | .z => .jr_Z_e e

end Sys2Proof
end

