-- ==== Sys2Proof/Safety.lean ====
section
/-! DEFINITION. The terms statements are made in: which addresses may be accessed, what an operand holds, what a step or an
instruction leaves unchanged, and the invariant of the state. -/

namespace Sys2Proof.Machine

/-! ## Addresses (20_memory.md R51) -/

/-- The ROM region. -/
abbrev InRom (a : Word) : Prop := a.toNat ≤ 0x7FFF

/-- The Unused region. -/
abbrev InUnused (a : Word) : Prop := 0xFEA0 ≤ a.toNat ∧ a.toNat ≤ 0xFEFF

/-- A byte write to the address succeeds (R59 to R61). -/
abbrev CanWrite (a : Word) : Prop := ¬InRom a ∧ ¬InUnused a

/-! ## What an operand holds -/

/-- The byte operand holds `v`: in the register, or in memory at `HL`. -/
def LocHolds (s : State) (o : Loc) (v : Byte) : Prop :=
  match o with
  | .r g => s.get8 g.reg = v
  | .atHL => s.peek s.hl = some v

/-- The ALU source holds `v`. -/
def SrcHolds (s : State) (o : Src) (v : Byte) : Prop :=
  match o with
  | .r g => s.get8 g.reg = v
  | .atHL => s.peek s.hl = some v
  | .n n => n = v

/-- Writing the byte operand succeeds. -/
def LocCanWrite (s : State) (o : Loc) : Prop :=
  match o with
  | .r _ => True
  | .atHL => CanWrite s.hl

/-- The flags are these, and the low nibble of `F` is zero (10_state.md R22, R23). -/
def FlagsAre (s : State) (z n h c : Bool) : Prop :=
  s.flagZ = z ∧ s.flagN = n ∧ s.flagH = h ∧ s.flagC = c ∧ s.f &&& 0x0F#8 = 0x00#8

/-! ## Frames -/

/-- A part of the state an instruction may change beside memory. -/
inductive Part where
  | reg (r : Reg)
  | sp
  | pc
deriving DecidableEq, Repr

/-- The part is the same in both states. -/
def Part.Same (p : Part) (s t : State) : Prop :=
  match p with
  | .reg r => t.get8 r = s.get8 r
  | .sp => t.sp = s.sp
  | .pc => t.pc = s.pc

/-- Every byte of memory at an address not listed reads as before. -/
def SameMemoryOff (ws : List Word) (s t : State) : Prop := ∀ a, a ∉ ws → t.peek a = s.peek a

/-- What changes is at most the parts listed and the bytes at the addresses listed: every other register, `sp`, `pc`, the trace,
where ROM's contents come from, and every other byte of memory are as before. The run status is stated beside it. -/
def Frame (ps : List Part) (ws : List Word) (s t : State) : Prop :=
  (∀ p, p ∉ ps → Part.Same p s t) ∧ t.trace = s.trace ∧ t.mem.romSource = s.mem.romSource ∧ SameMemoryOff ws s t

/-- The parts a write of the byte operand changes. -/
def locParts : Loc → List Part
  | .r g => [.reg g.reg]
  | .atHL => []

/-- The addresses a write of the byte operand stores to. -/
def locStores (s : State) : Loc → List Word
  | .r _ => []
  | .atHL => [s.hl]

/-- The parts a write of a pair operand or `sp` changes. -/
def rpParts : Rp → List Part
  | .bc => [.reg .b, .reg .c]
  | .de => [.reg .d, .reg .e]
  | .hl => [.reg .h, .reg .l]
  | .sp => [.sp]

/-! ## Invariant and run -/

/-- The invariant: the low nibble of `F` is zero (10_state.md R23) and memory is in canonical form. -/
def State.Inv (s : State) : Prop := s.f &&& 0x0F#8 = 0x00#8 ∧ s.mem.wf = true

/-- A run of `k` step requests is clean: `status = Running` in its result (40_step_cycle.md R127). -/
def CleanRun (k : Nat) (s : State) : Prop :=
  ∃ t, Host.Core.run ⟨State, Fault, Refusal, step, State.reset⟩ k s = .next t ∧ t.status = .running

/-! ## Classes of instructions -/

/-- The instructions that can leave `pc` other than at the next instruction (45_stack_control.md R252). -/
def Instr.transfersControl (i : Instr) : Prop :=
  (∃ c e, i = Instr.jr c e) ∨ (∃ nn, i = .call_nn nn) ∨ i = .ret

/-- The instructions that write `sp` (10_state.md R27): the four that name it, pushes, pops, `CALL` and `RET`. -/
def Instr.writesSp (i : Instr) : Prop :=
  (∃ nn, i = .ld_SP_nn nn) ∨ i = .ld_SP_HL ∨ i = .inc_SP ∨ i = .dec_SP ∨ (∃ p, i = Instr.push p) ∨ (∃ p, i = Instr.pop p) ∨
    (∃ nn, i = .call_nn nn) ∨ i = .ret

/-- The instructions that write memory (41_loads.md, 42_alu8.md, 44_rotate_bit.md, 45_stack_control.md). -/
def Instr.storesToMemory (i : Instr) : Prop :=
  (∃ g, i = Instr.ldAtHLR g) ∨ (∃ n, i = .ld_atHL_n n) ∨ (∃ m, i = Instr.ldMemA m) ∨ (∃ k, i = Instr.ldStepA k) ∨
    (∃ nn, i = .ld_atnn_SP nn) ∨ i = .inc_atHL ∨ i = .dec_atHL ∨ (∃ k, i = Instr.rotLoc k .atHL) ∨ (∃ p, i = Instr.push p) ∨
    (∃ nn, i = .call_nn nn)

/-- The instructions that write a flag (10_state.md R34). -/
def Instr.writesFlags (i : Instr) : Prop :=
  (∃ o, i = Instr.incLoc o) ∨ (∃ o, i = Instr.decLoc o) ∨ (∃ op o, i = Instr.alu op o) ∨ (∃ p, i = Instr.addHL p) ∨
    (∃ k, i = Instr.rotA k) ∨ (∃ k o, i = Instr.rotLoc k o) ∨ (∃ b o, i = Instr.bitLoc b o) ∨ i = .pop_AF

/-- The instructions whose effect outside `F` depends on `F` (10_state.md R25): the conditional jumps, `SBC`, the rotates through
carry, and `PUSH AF`. -/
def Instr.readsFlags (i : Instr) : Prop :=
  (∃ e, i = .jr_NZ_e e) ∨ (∃ e, i = .jr_Z_e e) ∨ (∃ o, i = Instr.sbcA o) ∨ i = .rla ∨ i = .rra ∨
    (∃ o, i = Instr.rotLoc .rl o) ∨ (∃ o, i = Instr.rotLoc .rr o) ∨ i = .push_AF

end Sys2Proof.Machine
end

