-- ==== Sys2Proof/Certificates/Slice0/Obligations.lean ====
section
/-! DEFINITION. What this model claims, for the provers: one `Obligations.<Name>` per claim, listed in OBLIGATIONS.json. Clauses
that rest on a decision of the spec's own or on a choice of the model name it in the docstring. -/

open Sys2Proof Sys2Proof.Machine

/-- Every opcode and operand bit of every instruction survives encoding and decoding (formats of R91, tables of R95 and R96;
the byte values, the escape among them, are the spec's own decision D1, D2, D3, log 10). -/
def Obligations.DecodeAfterEncodeGivesTheInstruction : Prop :=
  ∀ (i : Instr) (rest : List Byte), i.WellFormed → decode (encode i ++ rest) = .instr i rest

/-- The other direction of the round trip: no byte sequence outside the encodings decodes, and the escape is never an
instruction (R93, R102). The tables are the spec's decision D1, D2, D3 (log 10), with no entry added (D24, log 7); the
escape as a constructor is the model's (log 13). -/
def Obligations.EveryDecodedWordIsAnEncoding : Prop :=
  ∀ (i : Instr) (bytes rest : List Byte), decode bytes = .instr i rest → i.WellFormed ∧ bytes = encode i ++ rest

/-- A sanity statement on concrete words of 95_test_vectors.md. The byte values but 0x3E and 0x3C are decision D2, the
escape 0xCB D3 (log 10). -/
def Obligations.WordsOfTheSpecDecode : Prop :=
  decode [0x3E#8, 0x05#8] = .instr (.ld_A_n 0x05#8) [] ∧
    decode [0x21#8, 0x00#8, 0xC0#8] = .instr (.ld_HL_nn 0xC000#16) [] ∧
    decode [0xD6#8, 0x01#8] = .instr (.sub_n 0x01#8) [] ∧
    decode [0x39#8] = .instr .add_HL_SP [] ∧
    decode [0xCB#8, 0x11#8] = .instr .rl_C [] ∧
    decode [0xCB#8, 0x7E#8] = .instr .bit_7_atHL [] ∧
    decode [0xCD#8, 0x0C#8, 0x00#8] = .instr (.call_nn 0x000C#16) [] ∧
    decode [0x20#8, 0xFB#8] = .instr (.jr_NZ_e 0xFB#8) []

/-- The regular structure of R92, R95 and R96 over every operand (byte values: the spec's decision D2, the escape 0xCB D3;
log 10). -/
def Obligations.RegisterFieldsOfTheOpcodeByte : Prop :=
  (∀ dst g : GReg, encode (Instr.ldRR dst g) = [BitVec.ofNat 8 (0x40 + 8 * dst.code + g.code)]) ∧
    (∀ (g : GReg) (n : Byte), encode (Instr.ldRN g n) = [BitVec.ofNat 8 (0x06 + 8 * g.code), n]) ∧
    (∀ o : Loc, encode (Instr.incLoc o) = [BitVec.ofNat 8 (0x04 + 8 * o.code)] ∧
      encode (Instr.decLoc o) = [BitVec.ofNat 8 (0x05 + 8 * o.code)]) ∧
    (∀ (op : AluOp) (g : GReg), encode (Instr.alu op (.r g)) = [BitVec.ofNat 8 (0x80 + 8 * op.code + g.code)] ∧
      encode (Instr.alu op .atHL) = [BitVec.ofNat 8 (0x86 + 8 * op.code)]) ∧
    (∀ (op : AluOp) (n : Byte), encode (Instr.alu op (.n n)) = [BitVec.ofNat 8 (0xC6 + 8 * op.code), n]) ∧
    (∀ (p : Rp) (nn : Word), encode (Instr.ldRpNN p nn) = [BitVec.ofNat 8 (0x01 + 16 * p.code), loByte nn, hiByte nn] ∧
      encode (Instr.addHL p) = [BitVec.ofNat 8 (0x09 + 16 * p.code)] ∧
      encode (Instr.incRp p) = [BitVec.ofNat 8 (0x03 + 16 * p.code)] ∧
      encode (Instr.decRp p) = [BitVec.ofNat 8 (0x0B + 16 * p.code)]) ∧
    (∀ p : Pair, encode (Instr.push p) = [BitVec.ofNat 8 (0xC5 + 16 * p.code)] ∧
      encode (Instr.pop p) = [BitVec.ofNat 8 (0xC1 + 16 * p.code)]) ∧
    (∀ (k : Rot) (o : Loc), encode (Instr.rotLoc k o) = [0xCB#8, BitVec.ofNat 8 (8 * k.code + o.code)]) ∧
    (∀ (b : Fin 8) (o : Loc), encode (Instr.bitLoc b o) = [0xCB#8, BitVec.ofNat 8 (0x40 + 8 * b.val + o.code)])

/-- R97: the lists of absent values and what fetching one does. One class, one behaviour, the table in which the byte is
looked up decides (90_conflicts.md C11). Which byte values are absent, the escape value among them, is the spec's decision
D1, D2, D3 (log 10, PRESUMED); that an absent byte ends the run rests on OPTABLE_EXT being empty, D24 (log 7, DESIGN
CHOICE); the value an extended fault carries is D16 (log 17). -/
def Obligations.AbsentOpcodesAreTheListedOnes : Prop :=
  let absentPrimary : List Nat :=
      [0x10, 0x27, 0x2F, 0x30, 0x37, 0x38, 0x3F, 0x76,
       0x88, 0x89, 0x8A, 0x8B, 0x8C, 0x8D, 0x8E, 0x8F, 0xA0, 0xA1, 0xA2, 0xA3, 0xA4, 0xA5, 0xA6, 0xA7,
       0xB0, 0xB1, 0xB2, 0xB3, 0xB4, 0xB5, 0xB6, 0xB7, 0xC0, 0xC2, 0xC3, 0xC4, 0xC7, 0xC8, 0xCA, 0xCC, 0xCE, 0xCF,
       0xD0, 0xD2, 0xD3, 0xD4, 0xD7, 0xD8, 0xD9, 0xDA, 0xDB, 0xDC, 0xDD, 0xDF,
       0xE3, 0xE4, 0xE6, 0xE7, 0xE8, 0xE9, 0xEB, 0xEC, 0xED, 0xEF, 0xF3, 0xF4, 0xF6, 0xF7, 0xF8, 0xFB, 0xFC, 0xFD, 0xFF]
    let absentExtended (b : Byte) : Prop := (0x20 ≤ b.toNat ∧ b.toNat ≤ 0x3F) ∨ 0x80 ≤ b.toNat
    absentPrimary.length = 73 ∧
    (∀ b : Byte, (decode [b] = .unimplementedOpcode b false ↔ b.toNat ∈ absentPrimary) ∧
      (decode [0xCB#8, b] = .unimplementedOpcode b true ↔ absentExtended b)) ∧
    (∀ (s : State) (b : Byte), s.status = .running → s.peek s.pc = some b → b.toNat ∈ absentPrimary →
      ∃ t, step s = .next t ∧ t.status = .faulted (.unimplementedOpcode b false)) ∧
    (∀ (s : State) (b : Byte), s.status = .running → s.peek s.pc = some 0xCB#8 → s.peek (s.pc + 1#16) = some b →
      absentExtended b → ∃ t, step s = .next t ∧ t.status = .faulted (.unimplementedOpcode b true))

/-- R52, over the table of R51 (ten rows, 90_conflicts.md C1); the Read and Write columns of R51 are the machine's own
accesses (R57 to R61). -/
def Obligations.EveryAddressDecodesToOneRegion : Prop :=
  (∀ a : Word, ∃ row : Region,
      (regionTable.filter fun r => decide (r.first ≤ a.toNat ∧ a.toNat ≤ r.last)) = [row] ∧
      (route a).isSome = row.readable ∧ writable a = row.writable ∧
      ∀ (s : State) (v : Byte), ((∃ w t, readByte a s = .ok w t) ↔ row.readable = true) ∧
        ((∃ t, writeByte a v s = .ok () t) ↔ row.writable = true)) ∧
    (regionTable.map Region.size).sum = 65536 ∧ ∀ r ∈ regionTable, r.size = r.last + 1 - r.first

/-- R53 (marked derived by the spec) with the sizes of 10_state.md R28, R54 and R55; every row of the boundary vector of
95_test_vectors.md S2 is an instance. -/
def Obligations.RoutingReachesOneByteOfOneStore : Prop :=
  (∀ (st : StoreId) (first size : Nat),
      (st, first, size) ∈ ([(.romBank0, 0x0000, 16384), (.romBankN, 0x4000, 16384), (.vram, 0x8000, 8192),
        (.eram, 0xA000, 8192), (.wramBank0, 0xC000, 4096), (.wramBankN, 0xD000, 4096), (.echo, 0xE000, 7680),
        (.oam, 0xFE00, 160), (.io, 0xFF00, 128), (.hram, 0xFF80, 127), (.ie, 0xFFFF, 1)] : List (StoreId × Nat × Nat)) →
      Store.size st = size ∧ ∀ k, k < size → route (BitVec.ofNat 16 (first + k)) = some (st, k)) ∧
    (∀ (a b : Word) (x : StoreId × Nat), route a = some x → route b = some x → a = b) ∧
    (∀ (a : Word) (st : StoreId) (i : Nat), route a = some (st, i) → i < Store.size st) ∧
    (∀ a : Word, route a = none ↔ 0xFEA0 ≤ a.toNat ∧ a.toNat ≤ 0xFEFF) ∧
    ∀ (a : Word) (r : Region), r ∈ regionTable → r.first ≤ a.toNat → a.toNat ≤ r.last → r.readable = true →
      ∃ st, Store.size st = (if r.banked then r.size / 2 else r.size) ∧
        route a = some (st, if r.banked then (a.toNat - r.first) % (r.size / 2) else a.toNat - r.first)

/-- R57 (the read), R58 (the write), R59 (ROM is not written, with the exact address), R60 (Unused rejects reads and writes)
and R61 (no other address errs). The word operation of the fault, read or write, is the spec's decision D22 (log 24, DESIGN
CHOICE). -/
def Obligations.ByteAccessSucceedsOutsideRomAndUnused : Prop :=
  ∀ (s : State) (a : Word) (v : Byte),
      (InUnused a → readByte a s = .error (.illegalMemoryAccess a .read) s) ∧
      (¬InUnused a → ∃ w, s.peek a = some w ∧ readByte a s = .ok w s) ∧
      (InRom a ∨ InUnused a → writeByte a v s = .error (.illegalMemoryAccess a .write) s) ∧
      (¬InRom a → ¬InUnused a → ∃ t, writeByte a v s = .ok () t ∧ t.status = s.status ∧ t.peek a = some v ∧
        Frame [] [a] s t ∧
        ∀ st i, route a = some (st, i) → t.mem.readStore st i = v ∧
          ∀ u k, k < Store.size u → (u, k) ≠ (st, i) → t.mem.readStore u k = s.mem.readStore u k)

/-- R60: reads, writes and the opcode fetch. That a fetch that faults leaves pc unmoved and nothing else changed is the
spec's decision D18, D11 (log 9), and that its operation is a read is decision D22 (log 24). -/
def Obligations.UnusedRegionRejectsEverything : Prop :=
  ∀ (s : State) (a : Word) (v : Byte), InUnused a →
      readByte a s = .error (.illegalMemoryAccess a .read) s ∧
      writeByte a v s = .error (.illegalMemoryAccess a .write) s ∧
      (s.status = .running → s.pc = a →
        step s = .next (s.setStatus (.faulted (.illegalMemoryAccess a .read))))

/-- R65; on the console the range mirrors, here it does not (93_implementation_defined.md U6). -/
def Obligations.EchoRamIsNotAMirror : Prop :=
  Store.size .echo = 7680 ∧ ∀ (s : State) (k : Nat) (v : Byte), k < 7680 →
      route (BitVec.ofNat 16 (0xE000 + k)) = some (.echo, k) ∧
      (∀ i, route (BitVec.ofNat 16 (0xC000 + k)) ≠ some (.echo, i)) ∧
      (∃ t, writeByte (BitVec.ofNat 16 (0xC000 + k)) v s = .ok () t ∧ t.peek (BitVec.ofNat 16 (0xC000 + k)) = some v ∧
        t.peek (BitVec.ofNat 16 (0xE000 + k)) = s.peek (BitVec.ofNat 16 (0xE000 + k))) ∧
      (∃ t, writeByte (BitVec.ofNat 16 (0xE000 + k)) v s = .ok () t ∧ t.peek (BitVec.ofNat 16 (0xE000 + k)) = some v ∧
        t.peek (BitVec.ofNat 16 (0xC000 + k)) = s.peek (BitVec.ofNat 16 (0xC000 + k)))

/-- R62 to R64 and R67; the order, the wrap and the half-written word are the spec's own decision D10 (log 18), the word
operation of the fault its decision D22 (log 24). -/
def Obligations.WordAccessIsTwoBytesLowFirst : Prop :=
  ∀ (s : State) (a v : Word),
      (CanWrite a → CanWrite (a + 1#16) → ∃ t, writeWord a v s = .ok () t ∧ t.status = s.status ∧ readWord a t = .ok v t ∧
        t.peek a = some (loByte v) ∧ t.peek (a + 1#16) = some (hiByte v) ∧ Frame [] [a, a + 1#16] s t) ∧
      (CanWrite a → ¬CanWrite (a + 1#16) → ∃ t, writeWord a v s = .error (.illegalMemoryAccess (a + 1#16) .write) t ∧
        t.status = s.status ∧ t.peek a = some (loByte v) ∧ Frame [] [a] s t) ∧
      (¬CanWrite a → writeWord a v s = .error (.illegalMemoryAccess a .write) s) ∧
      (InUnused a → readWord a s = .error (.illegalMemoryAccess a .read) s) ∧
      (¬InUnused a → InUnused (a + 1#16) → readWord a s = .error (.illegalMemoryAccess (a + 1#16) .read) s)

/-- R35 and R291. No passage states the reset value of `pc`: 0x0000 is derived by the spec in R292 (log 5, DEDUCED); `sp` is
decision D6 (log 4, DESIGN CHOICE), `status` decision D11 (log 9), and the empty `trace` is the model's own field and value
(log 11, DESIGN CHOICE). -/
def Obligations.ResetRegisters : Prop :=
  (∀ r : Reg, State.reset.get8 r = 0x00#8) ∧ FlagsAre State.reset false false false false ∧
    State.reset.pc = 0x0000#16 ∧ State.reset.sp = 0x0000#16 ∧ State.reset.status = .running ∧ State.reset.trace = []

/-- R35, R291 and R294. VRAM_FILL (D7, log 1) and BOOT_IMAGE (D8, log 2) are free values; that the fill is one byte repeated
is decision D7 (log 1), and that ROM beyond the image is zero where the host supplies nothing is D9 (log 3). -/
def Obligations.ResetMemory : Prop :=
  (∀ a : Fin 256, State.reset.peek (BitVec.ofNat 16 a.val) = some (Config.bootImage a)) ∧
    (∃ fill : Byte, fill ≠ 0x00#8 ∧ ∀ a : Word, 0x8000 ≤ a.toNat → a.toNat ≤ 0x9FFF → State.reset.peek a = some fill) ∧
    ∀ a : Word, 0x100 ≤ a.toNat → ¬(0x8000 ≤ a.toNat ∧ a.toNat ≤ 0x9FFF) → ¬InUnused a →
      State.reset.peek a = some 0x00#8

/-- R77 and R291 step 6 (decision D9; log 3): the preload is no write_byte and raises nothing. -/
def Obligations.PreloadGivesRomItsContents : Prop :=
  ∀ (s : State) (rom : List Byte), rom.length ≤ 32768 →
      (∀ a : Word, InRom a → (s.preloadRom rom).peek a = some ((rom[a.toNat]?).getD 0x00#8)) ∧
      (∀ a : Word, ¬InRom a → (s.preloadRom rom).peek a = s.peek a) ∧
      (∀ r, (s.preloadRom rom).get8 r = s.get8 r) ∧ (s.preloadRom rom).pc = s.pc ∧ (s.preloadRom rom).sp = s.sp ∧
      (s.preloadRom rom).status = s.status ∧ (s.preloadRom rom).trace = s.trace

/-- R23, and the model's canonical form (log 12). -/
def Obligations.ResetSatisfiesTheInvariant : Prop :=
  State.reset.Inv

/-- R23: "Lower nibble of `f` is always zero", over every step, faulting ones included; POP AF masks by decision D14 (log
21). -/
def Obligations.EveryStepKeepsTheInvariant : Prop :=
  ∀ s t : State, s.Inv → step s = .next t → t.Inv

/-- R77: "After the first step ROM never changes"; R56, R59: nothing writes ROM and no write selects a bank. What R77 says
of the preload is decision D9 (log 3). -/
def Obligations.NoStepChangesRom : Prop :=
  ∀ s t : State, step s = .next t → t.mem.romSource = s.mem.romSource ∧ ∀ a : Word, InRom a → t.peek a = s.peek a

/-- R122: the step is total and deterministic. -/
def Obligations.EveryStepRequestHasAnOutcome : Prop :=
  ∀ s : State, s.status = .running → ∃ t, step s = .next t ∧ (t.status = .running ∨ ∃ f, t.status = .faulted f) ∧
      ∀ u, step s = .next u → u = t

/-- R261 and R262: when each fault is raised, and by what. Which opcodes are absent, and the escape value, is log 10 (D1,
D2, D3) with log 7 (D24); the operation word is decision D22 (log 24), the value an extended fault carries D16 (log 17). -/
def Obligations.RaisedFaultsAreTheTwoKinds : Prop :=
  ∀ (s t : State) (f : Fault), s.status = .running → step s = .next t → t.status = .faulted f →
      match f with
      | .illegalMemoryAccess a .read => InUnused a
      | .illegalMemoryAccess a .write => InRom a ∨ InUnused a
      | .unimplementedOpcode b false => s.peek s.pc = some b ∧ decode [b] = .unimplementedOpcode b false
      | .unimplementedOpcode b true => s.peek s.pc = some 0xCB#8 ∧ s.peek (s.pc + 1#16) = some b ∧
          decode [0xCB#8, b] = .unimplementedOpcode b true

/-- R266: faults are precise in the register file but for pc and sp, and imprecise in memory only by one byte of a split
word write (the spec's decision D11, D19; log 9). The operand fetches are the step's (log 15). The half-written word is D10
(log 18), the operation word by which the clauses are told apart D22 (log 24), the forms of the instructions named D2, D25
(log 10). -/
def Obligations.AFaultLeavesWhatWasReached : Prop :=
  ∀ (i : Instr) (s t : State) (f : Fault), i.WellFormed → s.status = .running → exec i s = .next t →
      t.status = .faulted f →
      (∀ r, t.get8 r = s.get8 r) ∧ t.pc = s.pc ∧ t.trace = s.trace ∧
      (t.sp = s.sp ∨ (t.sp = s.sp - 2#16 ∧ ((∃ p, i = Instr.push p) ∨ ∃ nn, i = .call_nn nn))) ∧
      match f with
      | .illegalMemoryAccess a .write => SameMemoryOff [a - 1#16] s t ∧
          (SameMemoryOff [] s t ∨ (∃ p, i = Instr.push p) ∨ (∃ nn, i = .call_nn nn) ∨ ∃ nn, i = .ld_atnn_SP nn)
      | _ => SameMemoryOff [] s t

/-- R252 (marked derived by the spec) and R125; pc is past the operands when exec is called (log 15). -/
def Obligations.OnlyControlTransfersMovePc : Prop :=
  ∀ (i : Instr) (s t : State), i.WellFormed → ¬Instr.transfersControl i → exec i s = .next t → t.pc = s.pc

/-- R27: which instructions write sp. Byte values and operand forms: D1, D2, D25 (log 10). -/
def Obligations.OnlyStackInstructionsMoveSp : Prop :=
  ∀ (i : Instr) (s t : State), ¬Instr.writesSp i → exec i s = .next t → t.sp = s.sp

/-- From the pseudocode of R140 to R251: MemWrite and PushWord occur in no other rule. Byte values and operand forms: D1,
D2, D25 (log 10). -/
def Obligations.OnlyStoresWriteMemory : Prop :=
  ∀ (i : Instr) (s t : State), i.WellFormed → ¬Instr.storesToMemory i → exec i s = .next t → SameMemoryOff [] s t

/-- R24, R34 and R139: an instruction whose rule lists no flag leaves F exactly as it was. R34 is marked derived by the
spec. -/
def Obligations.OnlyDocumentedInstructionsWriteFlags : Prop :=
  ∀ (i : Instr) (s t : State), i.WellFormed → ¬Instr.writesFlags i → exec i s = .next t → t.f = s.f

/-- R25 (marked derived): which instructions read the flags. -/
def Obligations.FlagsAreReadByTheListedInstructionsOnly : Prop :=
  ∀ (i : Instr) (s t : State) (x : Byte), i.WellFormed → ¬Instr.readsFlags i → exec i s = .next t →
      ∃ y : Byte, exec i { s with f := x } = .next { t with f := y }

/-- R120, R121, R123, R125. That the operand bytes are fetched before exec is the model's arrangement (log 15). What the
record carries for an extended instruction is D16, and the mnemonic strings are the table's (log 17); that State holds the
emitted records is the model's choice (log 11). -/
def Obligations.StepRunsTheDecodedInstruction : Prop :=
  ∀ (s : State) (i : Instr) (rest : List Byte), s.status = .running → decode s.codeAt = .instr i rest →
      step s = exec i ((s.setPc (s.pc + BitVec.ofNat 16 i.length)).addTrace ⟨s.pc, i.opcode, i.mnemonic, i.isExtended⟩)

/-- R262. Which opcodes are absent, and the escape value 0xCB, is log 10 (D1, D2, D3) with log 7 (D24); the value an
extended fault carries is D16 (log 17); that nothing is rolled back is D11 (log 9). -/
def Obligations.UnimplementedOpcodeEndsTheRun : Prop :=
  (∀ (s : State) (b : Byte) (x : Bool), s.status = .running → decode s.codeAt = .unimplementedOpcode b x →
      (if x then s.peek s.pc = some 0xCB#8 ∧ s.peek (s.pc + 1#16) = some b else s.peek s.pc = some b) ∧
      ∃ t, step s = .next t ∧ t.status = .faulted (.unimplementedOpcode b x) ∧
        t.pc = s.pc + (if x then 2#16 else 1#16) ∧ Frame [.pc] [] s t) ∧
    (∀ (i : Instr) (s t : State) (b : Byte) (x : Bool), i.WellFormed → s.status = .running → exec i s = .next t →
      t.status ≠ .faulted (.unimplementedOpcode b x))

/-- R121, R126, R261: a faulting fetch leaves pc unmoved, a Fetch16 too whose low byte was read (decision D18; log 9). That
0xCB is the escape, after which no record is emitted before the second byte is decoded, is decision D3 (log 10, PRESUMED).
R126 is marked derived by the spec; that a fetch is a read is decision D22 (log 24), the records held in State are log 11.
-/
def Obligations.AnUnreadableInstructionByteFaults : Prop :=
  ∀ s : State, s.status = .running → decode s.codeAt = .truncated →
      InUnused (s.pc + BitVec.ofNat 16 s.codeAt.length) ∧
      ∃ t, step s = .next t ∧
        t.status = .faulted (.illegalMemoryAccess (s.pc + BitVec.ofNat 16 s.codeAt.length) .read) ∧
        (∀ r, t.get8 r = s.get8 r) ∧ t.sp = s.sp ∧ t.mem = s.mem ∧
        match s.codeAt with
        | [] => t.pc = s.pc ∧ t.trace = s.trace
        | b0 :: _ => t.pc = s.pc + 1#16 ∧
            if b0 = 0xCB#8 then t.trace = s.trace
            else ∃ m, t.trace = ⟨s.pc, b0, m, false⟩ :: s.trace

/-- R124 and R263 (decision D11, log 9; that the step answers this as a next state is log 8). -/
def Obligations.AFaultedMachineNeverStepsAgain : Prop :=
  ∀ (s : State) (f : Fault), s.status = .faulted f → step s = .next s

/-- R93, R94, R96. The step itself decodes the escape and never executes it; its meaning is the model's reading of R93 (log
13). The meaning goes by the fields of R92, the decoder by the grid of R96: this says they agree. The escape value and the
tables are log 10 (D2, D3), the record and the value of the fault D16 (log 17), what a faulting fetch leaves D18 (log 9) and
its operation D22 (log 24). -/
def Obligations.TheEscapeRunsTheExtendedTable : Prop :=
  ∀ s : State,
      (∀ (b : Byte) (i : Instr), s.peek s.pc = some b → decode [0xCB#8, b] = .instr i [] →
        ∃ t, exec .escape s = .next t ∧
          exec i ((s.setPc (s.pc + 1#16)).addTrace ⟨s.pc - 1#16, b, i.mnemonic, true⟩) = .next t) ∧
      (∀ b : Byte, s.peek s.pc = some b → decode [0xCB#8, b] = .unimplementedOpcode b true →
        exec .escape s = .next ((s.setPc (s.pc + 1#16)).setStatus (.faulted (.unimplementedOpcode b true)))) ∧
      (InUnused s.pc → exec .escape s = .next (s.setStatus (.faulted (.illegalMemoryAccess s.pc .read))))

/-- R180 to R184 and R186, on integers: Z exactly when the result is zero. That the H test of R183, bit 4 of `a ^ b ^ res`,
equals the comparison of the low nibbles is marked derived by the spec; no log entry, since the meaning uses the test
itself. -/
def Obligations.EightBitHelpersComputeResultAndFlags : Prop :=
  ∀ a b f : Byte,
      (increment8 a f).1.toNat = (a.toNat + 1) % 256 ∧
      (increment8 a f).2 = flags (decide (a = 0xFF#8)) false (decide (a.toNat % 16 = 15)) (f.getLsbD 4) ∧
      (decrement8 a f).1.toNat = (a.toNat + 255) % 256 ∧
      (decrement8 a f).2 = flags (decide (a = 0x01#8)) true (decide (a.toNat % 16 = 0)) (f.getLsbD 4) ∧
      (add8 a b f).1.toNat = (a.toNat + b.toNat) % 256 ∧
      (add8 a b f).2 = flags (decide ((a.toNat + b.toNat) % 256 = 0)) false (decide (a.toNat % 16 + b.toNat % 16 > 15))
        (decide (a.toNat + b.toNat > 255)) ∧
      (sub8 a b f).1.toNat = (a.toNat + (256 - b.toNat)) % 256 ∧
      (sub8 a b f).2 = flags (decide (a = b)) true (decide (a.toNat % 16 < b.toNat % 16)) (decide (a.toNat < b.toNat)) ∧
      ((a ^^^ b ^^^ (sub8 a b f).1) &&& 0x10#8 ≠ 0#8 ↔ a.toNat % 16 < b.toNat % 16) ∧
      compare8 a b f = (sub8 a b f).2 ∧
      (xor8 a b f).1 = a ^^^ b ∧
      (xor8 a b f).2 = flags (decide (a = b)) false false false

/-- R210, R211, R224, on integers. -/
def Obligations.SixteenBitHelpersAndBitTest : Prop :=
  (∀ (a b : Word) (f : Byte),
      (add16 a b f).1.toNat = (a.toNat + b.toNat) % 65536 ∧
      (add16 a b f).2 = flags (f.getLsbD 7) false (decide (a.toNat % 4096 + b.toNat % 4096 > 4095))
        (decide (a.toNat + b.toNat > 65535)) ∧
      (increment16 a).toNat = (a.toNat + 1) % 65536 ∧ (decrement16 a).toNat = (a.toNat + 65535) % 65536) ∧
    (∀ (n : Fin 8) (v f : Byte),
      bitTest n v f = flags (decide (v.toNat / 2 ^ n.val % 2 = 0)) false true (f.getLsbD 4))

/-- R240 and R241. Which byte of a word access faults, at which address, and that a push whose high byte cannot be written
leaves the low byte written, are the spec's decision D10 (R64; log 18). What a fault leaves is the spec's decision D11, D19
(log 9), its operation word D22 (log 24). -/
def Obligations.StackPrimitivesArePushAndPop : Prop :=
  ∀ (s : State) (v : Word),
      (CanWrite (s.sp - 2#16) → CanWrite (s.sp - 1#16) → ∃ t, pushWord v s = .ok () t ∧ t.status = s.status ∧
        t.sp = s.sp - 2#16 ∧ t.peek (s.sp - 2#16) = some (loByte v) ∧ t.peek (s.sp - 1#16) = some (hiByte v) ∧
        Frame [.sp] [s.sp - 2#16, s.sp - 1#16] s t ∧
        popWord t = .ok v (t.setSp s.sp)) ∧
      (¬CanWrite (s.sp - 2#16) → pushWord v s = .error (.illegalMemoryAccess (s.sp - 2#16) .write) (s.setSp (s.sp - 2#16))) ∧
      (CanWrite (s.sp - 2#16) → ¬CanWrite (s.sp - 1#16) → ∃ t,
        pushWord v s = .error (.illegalMemoryAccess (s.sp - 1#16) .write) t ∧ t.sp = s.sp - 2#16 ∧
        t.peek (s.sp - 2#16) = some (loByte v) ∧ Frame [.sp] [s.sp - 2#16] s t) ∧
      (∀ lo hi, s.peek s.sp = some lo → s.peek (s.sp + 1#16) = some hi →
        popWord s = .ok (wordOf hi lo) (s.setSp (s.sp + 2#16))) ∧
      (InUnused s.sp → popWord s = .error (.illegalMemoryAccess s.sp .read) s) ∧
      (¬InUnused s.sp → InUnused (s.sp + 1#16) → popWord s = .error (.illegalMemoryAccess (s.sp + 1#16) .read) s)

/-- R140, R143, R159, R161 (which forms exist, and at which bytes, is the spec's decision D2, D25; log 10). -/
def Obligations.LoadRegisterFromRegisterOrImmediate : Prop :=
  ∀ s : State,
      (∀ dst g : GReg, ∃ t, exec (Instr.ldRR dst g) s = .next t ∧ t.status = s.status ∧ t.get8 dst.reg = s.get8 g.reg ∧
        Frame [.reg dst.reg] [] s t) ∧
      (∀ (dst : GReg) (n : Byte), ∃ t, exec (Instr.ldRN dst n) s = .next t ∧ t.status = s.status ∧ t.get8 dst.reg = n ∧
        Frame [.reg dst.reg] [] s t) ∧
      (∀ (p : Rp) (nn : Word), ∃ t, exec (Instr.ldRpNN p nn) s = .next t ∧ t.status = s.status ∧ t.getRp p = nn ∧
        Frame (rpParts p) [] s t) ∧
      (∃ t, exec .ld_SP_HL s = .next t ∧ t.status = s.status ∧ t.sp = wordOf s.h s.l ∧ Frame [.sp] [] s t)

/-- R141, R145, R146, R154, R156, R158: the address is written out here, not taken from the model. The forms are decision
D2, D25 and the high page 0xFF00 D2 (log 10). What a fault leaves is the spec's decision D11, D19 (log 9), its operation
word D22 (log 24). -/
def Obligations.LoadFromMemory : Prop :=
  ∀ (s : State) (i : Instr) (dst : GReg) (a : Word),
      ((i = Instr.ldRAtHL dst ∧ a = wordOf s.h s.l) ∨
       (dst = .a ∧ i = Instr.ldAMem .atBC ∧ a = wordOf s.b s.c) ∨ (dst = .a ∧ i = Instr.ldAMem .atDE ∧ a = wordOf s.d s.e) ∨
       (dst = .a ∧ i = Instr.ldAMem (.atNN a)) ∨
       (dst = .a ∧ ∃ n : Byte, i = Instr.ldAMem (.highN n) ∧ a = BitVec.ofNat 16 (0xFF00 + n.toNat)) ∨
       (dst = .a ∧ i = Instr.ldAMem .highC ∧ a = BitVec.ofNat 16 (0xFF00 + s.c.toNat))) →
      (∀ v, s.peek a = some v →
        ∃ t, exec i s = .next t ∧ t.status = s.status ∧ t.get8 dst.reg = v ∧ Frame [.reg dst.reg] [] s t) ∧
      (¬InUnused a → ∃ v, s.peek a = some v) ∧
      (InUnused a → exec i s = .next (s.setStatus (.faulted (.illegalMemoryAccess a .read))))

/-- R151, R152. The forms, and that HL steps after the access, are decision D26 (log 24). What a fault leaves is the spec's
decision D11, D19 (log 9), its operation word D22 (log 24). -/
def Obligations.LoadAccumulatorSteppingHL : Prop :=
  ∀ (s : State) (k : HLStep),
      (∀ v, s.peek s.hl = some v → ∃ t, exec (Instr.ldAStep k) s = .next t ∧ t.status = s.status ∧ t.a = v ∧
        t.hl.toNat = (match k with | .plus => (s.hl.toNat + 1) % 65536 | .minus => (s.hl.toNat + 65535) % 65536) ∧
        Frame [.reg .a, .reg .h, .reg .l] [] s t) ∧
      (InUnused s.hl → exec (Instr.ldAStep k) s = .next (s.setStatus (.faulted (.illegalMemoryAccess s.hl .read))))

/-- R142, R144, R147, R148, R153, R155, R157: the address is written out here, not taken from the model. The forms are
decision D2, D25 and the high page 0xFF00 D2 (log 10). What a fault leaves is the spec's decision D11, D19 (log 9), its
operation word D22 (log 24). -/
def Obligations.StoreToMemory : Prop :=
  ∀ (s : State) (i : Instr) (a : Word) (v : Byte),
      ((∃ g : GReg, i = Instr.ldAtHLR g ∧ a = wordOf s.h s.l ∧ v = s.get8 g.reg) ∨
       (i = .ld_atHL_n v ∧ a = wordOf s.h s.l) ∨
       (i = Instr.ldMemA .atBC ∧ a = wordOf s.b s.c ∧ v = s.a) ∨ (i = Instr.ldMemA .atDE ∧ a = wordOf s.d s.e ∧ v = s.a) ∨
       (i = Instr.ldMemA (.atNN a) ∧ v = s.a) ∨
       (∃ n : Byte, i = Instr.ldMemA (.highN n) ∧ a = BitVec.ofNat 16 (0xFF00 + n.toNat) ∧ v = s.a) ∨
       (i = Instr.ldMemA .highC ∧ a = BitVec.ofNat 16 (0xFF00 + s.c.toNat) ∧ v = s.a)) →
      (CanWrite a → ∃ t, exec i s = .next t ∧ t.status = s.status ∧ t.peek a = some v ∧ Frame [] [a] s t) ∧
      (InRom a ∨ InUnused a → exec i s = .next (s.setStatus (.faulted (.illegalMemoryAccess a .write)))) ∧
      (∀ m, i = Instr.ldMemA m → ((∃ n, m = .highN n) ∨ m = .highC) → CanWrite a)

/-- R149, R150. The forms, and that HL steps after the access, are decision D26 (log 24). What a fault leaves is the spec's
decision D11, D19 (log 9), its operation word D22 (log 24). -/
def Obligations.StoreAccumulatorSteppingHL : Prop :=
  ∀ (s : State) (k : HLStep),
      (CanWrite s.hl → ∃ t, exec (Instr.ldStepA k) s = .next t ∧ t.status = s.status ∧ t.peek s.hl = some s.a ∧
        t.hl.toNat = (match k with | .plus => (s.hl.toNat + 1) % 65536 | .minus => (s.hl.toNat + 65535) % 65536) ∧
        Frame [.reg .h, .reg .l] [s.hl] s t) ∧
      (¬CanWrite s.hl → exec (Instr.ldStepA k) s = .next (s.setStatus (.faulted (.illegalMemoryAccess s.hl .write))))

/-- R160; the order of the two bytes and the half-written word are decision D10 (log 18). What a fault leaves is the spec's
decision D11, D19 (log 9), its operation word D22 (log 24). -/
def Obligations.StoreStackPointer : Prop :=
  ∀ (s : State) (nn : Word),
      (CanWrite nn → CanWrite (nn + 1#16) → ∃ t, exec (.ld_atnn_SP nn) s = .next t ∧ t.status = s.status ∧
        t.peek nn = some (loByte s.sp) ∧ t.peek (nn + 1#16) = some (hiByte s.sp) ∧ Frame [] [nn, nn + 1#16] s t) ∧
      (¬CanWrite nn → exec (.ld_atnn_SP nn) s = .next (s.setStatus (.faulted (.illegalMemoryAccess nn .write)))) ∧
      (CanWrite nn → ¬CanWrite (nn + 1#16) → ∃ t, exec (.ld_atnn_SP nn) s = .next t ∧
        t.status = .faulted (.illegalMemoryAccess (nn + 1#16) .write) ∧ t.peek nn = some (loByte s.sp) ∧ Frame [] [nn] s t)

/-- R187, R188 with the helper of R180. The operand forms and which register is meant are decision D2, D25 (log 10). -/
def Obligations.IncrementByte : Prop :=
  ∀ (o : Loc) (s : State) (v : Byte), LocHolds s o v → LocCanWrite s o →
      ∃ t, exec (Instr.incLoc o) s = .next t ∧ t.status = s.status ∧ LocHolds t o (BitVec.ofNat 8 (v.toNat + 1)) ∧
        FlagsAre t (decide (v = 0xFF#8)) false (decide (v.toNat % 16 = 15)) s.flagC ∧
        Frame (.reg .f :: locParts o) (locStores s o) s t

/-- R189, R190 with the helper of R181. The operand forms and which register is meant are decision D2, D25 (log 10). -/
def Obligations.DecrementByte : Prop :=
  ∀ (o : Loc) (s : State) (v : Byte), LocHolds s o v → LocCanWrite s o →
      ∃ t, exec (Instr.decLoc o) s = .next t ∧ t.status = s.status ∧ LocHolds t o (BitVec.ofNat 8 (v.toNat + 255)) ∧
        FlagsAre t (decide (v = 0x01#8)) true (decide (v.toNat % 16 = 0)) s.flagC ∧
        Frame (.reg .f :: locParts o) (locStores s o) s t

/-- R191 to R193 with the helper of R182 (that A is the accumulator is decision D2, the forms D25; log 10). -/
def Obligations.AddToAccumulator : Prop :=
  ∀ (o : Src) (s : State) (v : Byte), SrcHolds s o v →
      ∃ t, exec (Instr.addA o) s = .next t ∧ t.status = s.status ∧ t.a.toNat = (s.a.toNat + v.toNat) % 256 ∧
        FlagsAre t (decide ((s.a.toNat + v.toNat) % 256 = 0)) false (decide (s.a.toNat % 16 + v.toNat % 16 > 15))
          (decide (s.a.toNat + v.toNat > 255)) ∧
        Frame [.reg .a, .reg .f] [] s t

/-- R194 to R196 with the helper of R183. The operand forms and which register is meant are decision D2, D25 (log 10). -/
def Obligations.SubtractFromAccumulator : Prop :=
  ∀ (o : Src) (s : State) (v : Byte), SrcHolds s o v →
      ∃ t, exec (Instr.subA o) s = .next t ∧ t.status = s.status ∧ t.a.toNat = (s.a.toNat + (256 - v.toNat)) % 256 ∧
        FlagsAre t (decide (s.a = v)) true (decide (s.a.toNat % 16 < v.toNat % 16)) (decide (s.a.toNat < v.toNat)) ∧
        Frame [.reg .a, .reg .f] [] s t

/-- R197 to R199 with the helper of R185. That b + carry keeps its ninth bit is the spec's decision D5 (log 19). The forms
are D2, D25 (log 10). -/
def Obligations.SubtractWithCarryFromAccumulator : Prop :=
  ∀ (o : Src) (s : State) (v : Byte), SrcHolds s o v →
      let b2 := v.toNat + s.flagC.toNat
      ∃ t, exec (Instr.sbcA o) s = .next t ∧ t.status = s.status ∧ t.a.toNat = (s.a.toNat + (512 - b2)) % 256 ∧
        FlagsAre t (decide ((s.a.toNat + (512 - b2)) % 256 = 0)) true (decide (s.a.toNat % 16 < b2 % 16))
          (decide (s.a.toNat < b2)) ∧
        (v.toNat % 16 = 15 → s.flagC = true → t.flagH = false) ∧ Frame [.reg .a, .reg .f] [] s t

/-- R200 to R202 with the helper of R186. The operand forms and which register is meant are decision D2, D25 (log 10). -/
def Obligations.ExclusiveOrWithAccumulator : Prop :=
  ∀ (o : Src) (s : State) (v : Byte), SrcHolds s o v →
      ∃ t, exec (Instr.xorA o) s = .next t ∧ t.status = s.status ∧ t.a = s.a ^^^ v ∧
        FlagsAre t (decide (s.a = v)) false false false ∧ Frame [.reg .a, .reg .f] [] s t

/-- R203 to R205 with the helper of R184. The operand forms and which register is meant are decision D2, D25 (log 10). -/
def Obligations.CompareWithAccumulator : Prop :=
  ∀ (o : Src) (s : State) (v : Byte), SrcHolds s o v →
      ∃ t, exec (Instr.cpA o) s = .next t ∧ t.status = s.status ∧
        FlagsAre t (decide (s.a = v)) true (decide (s.a.toNat % 16 < v.toNat % 16)) (decide (s.a.toNat < v.toNat)) ∧
        Frame [.reg .f] [] s t

/-- The fault clauses of R188, R190, R192, R195, R198, R201, R204, R230, R232, R234, R236, R238. What a fault leaves is the
spec's decision D11, D19 (log 9), its operation word D22 (log 24). -/
def Obligations.MemoryOperandsTrap : Prop :=
  ∀ s : State,
      (InUnused s.hl → ∀ i : Instr, ((∃ op, i = Instr.alu op .atHL) ∨ (∃ b, i = Instr.bitLoc b .atHL) ∨ i = .inc_atHL ∨
          i = .dec_atHL ∨ ∃ k, i = Instr.rotLoc k .atHL) →
        exec i s = .next (s.setStatus (.faulted (.illegalMemoryAccess s.hl .read)))) ∧
      (InRom s.hl → ∀ i : Instr, (i = .inc_atHL ∨ i = .dec_atHL ∨ ∃ k, i = Instr.rotLoc k .atHL) →
        exec i s = .next (s.setStatus (.faulted (.illegalMemoryAccess s.hl .write))))

/-- R212 with the helper of R210. The operand forms and which register is meant are decision D2, D25 (log 10). -/
def Obligations.AddPairToHL : Prop :=
  ∀ (p : Rp) (s : State),
      ∃ t, exec (Instr.addHL p) s = .next t ∧ t.status = s.status ∧ t.hl.toNat = (s.hl.toNat + (s.getRp p).toNat) % 65536 ∧
        FlagsAre t s.flagZ false (decide (s.hl.toNat % 4096 + (s.getRp p).toNat % 4096 > 4095))
          (decide (s.hl.toNat + (s.getRp p).toNat > 65535)) ∧
        Frame [.reg .h, .reg .l, .reg .f] [] s t

/-- R213, R214 with the helpers of R211. The operand forms and which register is meant are decision D2, D25 (log 10). -/
def Obligations.StepPairOrStackPointer : Prop :=
  ∀ (p : Rp) (s : State),
      (∃ t, exec (Instr.incRp p) s = .next t ∧ t.status = s.status ∧ (t.getRp p).toNat = ((s.getRp p).toNat + 1) % 65536 ∧
        Frame (rpParts p) [] s t) ∧
      (∃ t, exec (Instr.decRp p) s = .next t ∧ t.status = s.status ∧ (t.getRp p).toNat = ((s.getRp p).toNat + 65535) % 65536 ∧
        Frame (rpParts p) [] s t)

/-- R225, R226, R229 to R232 with the helpers of R220, R221; which opcode uses which helper is decision D4 (log 20). Which
way is left is general knowledge (G7, log 20), the forms D2, D25 (log 10). -/
def Obligations.SimpleRotates : Prop :=
  ∀ (o : Loc) (i : Instr) (s : State) (v : Byte), LocHolds s o v → LocCanWrite s o →
      (i = Instr.rotLoc .rlc o ∨ (i = Instr.rotA .rlc ∧ o = .r .a) →
        ∃ t, exec i s = .next t ∧ t.status = s.status ∧
          LocHolds t o (BitVec.ofNat 8 (2 * v.toNat + v.toNat / 128)) ∧
          FlagsAre t false false false (decide (v.toNat ≥ 128)) ∧ Frame (.reg .f :: locParts o) (locStores s o) s t) ∧
      (i = Instr.rotLoc .rrc o ∨ (i = Instr.rotA .rrc ∧ o = .r .a) →
        ∃ t, exec i s = .next t ∧ t.status = s.status ∧
          LocHolds t o (BitVec.ofNat 8 (v.toNat / 2 + 128 * (v.toNat % 2))) ∧
          FlagsAre t false false false (decide (v.toNat % 2 = 1)) ∧ Frame (.reg .f :: locParts o) (locStores s o) s t)

/-- R227, R228, R233 to R236 with the helpers of R222, R223; which opcode uses which helper is decision D4 (log 20). Which
way is left is general knowledge (G7, log 20), the forms D2, D25 (log 10). -/
def Obligations.RotatesThroughCarry : Prop :=
  ∀ (o : Loc) (i : Instr) (s : State) (v : Byte), LocHolds s o v → LocCanWrite s o →
      (i = Instr.rotLoc .rl o ∨ (i = Instr.rotA .rl ∧ o = .r .a) →
        ∃ t, exec i s = .next t ∧ t.status = s.status ∧
          LocHolds t o (BitVec.ofNat 8 (2 * v.toNat + s.flagC.toNat)) ∧
          FlagsAre t (decide ((2 * v.toNat + s.flagC.toNat) % 256 = 0)) false false (decide (v.toNat ≥ 128)) ∧
          Frame (.reg .f :: locParts o) (locStores s o) s t) ∧
      (i = Instr.rotLoc .rr o ∨ (i = Instr.rotA .rr ∧ o = .r .a) →
        ∃ t, exec i s = .next t ∧ t.status = s.status ∧
          LocHolds t o (BitVec.ofNat 8 (v.toNat / 2 + 128 * s.flagC.toNat)) ∧
          FlagsAre t (decide (v.toNat / 2 + 128 * s.flagC.toNat = 0)) false false (decide (v.toNat % 2 = 1)) ∧
          Frame (.reg .f :: locParts o) (locStores s o) s t)

/-- R237, R238 with the helper of R224. The operand forms and which register is meant are decision D2, D25 (log 10). -/
def Obligations.TestBit : Prop :=
  ∀ (b : Fin 8) (o : Loc) (s : State) (v : Byte), LocHolds s o v →
      ∃ t, exec (Instr.bitLoc b o) s = .next t ∧ t.status = s.status ∧
        FlagsAre t (decide (v.toNat / 2 ^ b.val % 2 = 0)) false true s.flagC ∧ Frame [.reg .f] [] s t

/-- R242 with the primitive of R240. The half-written word is decision D10 (log 18), the pairs are D25 (log 10). What a
fault leaves is the spec's decision D11, D19 (log 9), its operation word D22 (log 24). -/
def Obligations.PushPair : Prop :=
  ∀ (p : Pair) (s : State),
      (CanWrite (s.sp - 2#16) → CanWrite (s.sp - 1#16) → ∃ t, exec (Instr.push p) s = .next t ∧ t.status = s.status ∧
        t.sp = s.sp - 2#16 ∧ t.peek (s.sp - 2#16) = some (s.get8 (pairLo p)) ∧ t.peek (s.sp - 1#16) = some (s.get8 (pairHi p)) ∧
        Frame [.sp] [s.sp - 2#16, s.sp - 1#16] s t) ∧
      (¬CanWrite (s.sp - 2#16) → exec (Instr.push p) s =
        .next ((s.setSp (s.sp - 2#16)).setStatus (.faulted (.illegalMemoryAccess (s.sp - 2#16) .write)))) ∧
      (CanWrite (s.sp - 2#16) → ¬CanWrite (s.sp - 1#16) → ∃ t, exec (Instr.push p) s = .next t ∧
        t.status = .faulted (.illegalMemoryAccess (s.sp - 1#16) .write) ∧ t.sp = s.sp - 2#16 ∧
        t.peek (s.sp - 2#16) = some (s.get8 (pairLo p)) ∧ Frame [.sp] [s.sp - 2#16] s t)

/-- R243, R244 with the primitive of R241; the mask of POP AF is decision D14 (log 21). The order of the two reads is D10
(log 18), the pairs are D25 (log 10). What a fault leaves is the spec's decision D11, D19 (log 9), its operation word D22
(log 24). -/
def Obligations.PopPair : Prop :=
  ∀ (p : Pair) (s : State),
      (∀ lo hi, s.peek s.sp = some lo → s.peek (s.sp + 1#16) = some hi → ∃ t, exec (Instr.pop p) s = .next t ∧
        t.status = s.status ∧ t.sp = s.sp + 2#16 ∧ t.get8 (pairHi p) = hi ∧
        t.get8 (pairLo p) = (if p = .af then lo &&& 0xF0#8 else lo) ∧
        Frame [.sp, .reg (pairHi p), .reg (pairLo p)] [] s t) ∧
      (InUnused s.sp → exec (Instr.pop p) s = .next (s.setStatus (.faulted (.illegalMemoryAccess s.sp .read)))) ∧
      (¬InUnused s.sp → InUnused (s.sp + 1#16) →
        exec (Instr.pop p) s = .next (s.setStatus (.faulted (.illegalMemoryAccess (s.sp + 1#16) .read))))

/-- R245 to R248. That the displacement byte is fetched on both paths is decision D12 (log 22); the fetch is the step's. -/
def Obligations.RelativeJumps : Prop :=
  ∀ (c : JumpCond) (e : Byte) (s : State),
      ∃ t, exec (Instr.jr c e) s = .next t ∧ t.status = s.status ∧
        (t.pc.toNat : Int) =
          (if c = .always ∨ (c = .nz ∧ s.flagZ = false) ∨ (c = .z ∧ s.flagZ = true)
            then ((s.pc.toNat : Int) + e.toInt) % 65536 else s.pc.toNat) ∧
        Frame [.pc] [] s t

/-- R249 with the primitive of R240; that the pc pushed is the one after the operand is decision D13 (log 22). The
half-written word is D10 (log 18). What a fault leaves is the spec's decision D11, D19 (log 9), its operation word D22 (log
24). -/
def Obligations.CallPushesTheReturnAddress : Prop :=
  ∀ (nn : Word) (s : State),
      (CanWrite (s.sp - 2#16) → CanWrite (s.sp - 1#16) → ∃ t, exec (.call_nn nn) s = .next t ∧ t.status = s.status ∧
        t.pc = nn ∧ t.sp = s.sp - 2#16 ∧ t.peek (s.sp - 2#16) = some (loByte s.pc) ∧ t.peek (s.sp - 1#16) = some (hiByte s.pc) ∧
        Frame [.sp, .pc] [s.sp - 2#16, s.sp - 1#16] s t) ∧
      (¬CanWrite (s.sp - 2#16) → exec (.call_nn nn) s =
        .next ((s.setSp (s.sp - 2#16)).setStatus (.faulted (.illegalMemoryAccess (s.sp - 2#16) .write)))) ∧
      (CanWrite (s.sp - 2#16) → ¬CanWrite (s.sp - 1#16) → ∃ t, exec (.call_nn nn) s = .next t ∧
        t.status = .faulted (.illegalMemoryAccess (s.sp - 1#16) .write) ∧ t.sp = s.sp - 2#16 ∧
        t.peek (s.sp - 2#16) = some (loByte s.pc) ∧ Frame [.sp] [s.sp - 2#16] s t)

/-- R250 with the primitive of R241. The order of the two reads is D10 (log 18). What a fault leaves is the spec's decision
D11, D19 (log 9), its operation word D22 (log 24). -/
def Obligations.ReturnPopsIntoPc : Prop :=
  ∀ s : State,
      (∀ lo hi, s.peek s.sp = some lo → s.peek (s.sp + 1#16) = some hi → ∃ t, exec .ret s = .next t ∧
        t.status = s.status ∧ t.pc.toNat = 256 * hi.toNat + lo.toNat ∧ t.sp = s.sp + 2#16 ∧ Frame [.sp, .pc] [] s t) ∧
      (InUnused s.sp → exec .ret s = .next (s.setStatus (.faulted (.illegalMemoryAccess s.sp .read)))) ∧
      (¬InUnused s.sp → InUnused (s.sp + 1#16) →
        exec .ret s = .next (s.setStatus (.faulted (.illegalMemoryAccess (s.sp + 1#16) .read))))

/-- R251: that 0x00 is present as NOP is decision D20 (log 24). -/
def Obligations.NopChangesNothing : Prop :=
  ∀ s : State, exec .nop s = .next s

/-- R241, R249, R250: "A pop does not change memory: the popped bytes stay where they were". That CALL pushes the address
after its operand is D13 (log 22). -/
def Obligations.CallThenReturnComesBack : Prop :=
  ∀ (nn : Word) (s : State), CanWrite (s.sp - 2#16) → CanWrite (s.sp - 1#16) →
      ∃ t u, exec (.call_nn nn) s = .next t ∧ exec .ret t = .next u ∧ u.status = s.status ∧
        Frame [] [s.sp - 2#16, s.sp - 1#16] s u ∧ u.peek (s.sp - 2#16) = some (loByte s.pc) ∧ u.peek (s.sp - 1#16) = some (hiByte s.pc)
end

