-- ==== Sys2Proof/Laws/Forms.lean ====
section
/-! SUPPORT. Case analysis on an instruction by its form: a statement that holds of every form holds of every instruction. -/

namespace Sys2Proof

theorem Instr.form_cases {P : Instr → Prop}
    (on_ldRR : ∀ (x : GReg) (y : GReg), P (Instr.ldRR x y))
    (on_ldRAtHL : ∀ (x : GReg), P (Instr.ldRAtHL x))
    (on_ldAtHLR : ∀ (x : GReg), P (Instr.ldAtHLR x))
    (on_ldRN : ∀ (g : GReg) (n : Byte), P (Instr.ldRN g n))
    (on_ldAMem : ∀ (x : AMem), P (Instr.ldAMem x))
    (on_ldMemA : ∀ (x : AMem), P (Instr.ldMemA x))
    (on_ldAStep : ∀ (x : HLStep), P (Instr.ldAStep x))
    (on_ldStepA : ∀ (x : HLStep), P (Instr.ldStepA x))
    (on_ldRpNN : ∀ (p : Rp) (nn : Word), P (Instr.ldRpNN p nn))
    (on_incLoc : ∀ (x : Loc), P (Instr.incLoc x))
    (on_decLoc : ∀ (x : Loc), P (Instr.decLoc x))
    (on_addA : ∀ (x : Src), P (Instr.addA x))
    (on_subA : ∀ (x : Src), P (Instr.subA x))
    (on_sbcA : ∀ (x : Src), P (Instr.sbcA x))
    (on_xorA : ∀ (x : Src), P (Instr.xorA x))
    (on_cpA : ∀ (x : Src), P (Instr.cpA x))
    (on_addHL : ∀ (x : Rp), P (Instr.addHL x))
    (on_incRp : ∀ (x : Rp), P (Instr.incRp x))
    (on_decRp : ∀ (x : Rp), P (Instr.decRp x))
    (on_rotA : ∀ (x : Rot), P (Instr.rotA x))
    (on_rotLoc : ∀ (x : Rot) (y : Loc), P (Instr.rotLoc x y))
    (on_bitLoc : ∀ (x : Fin 8) (y : Loc), P (Instr.bitLoc x y))
    (on_push : ∀ (x : Pair), P (Instr.push x))
    (on_pop : ∀ (x : Pair), P (Instr.pop x))
    (on_jr : ∀ (c : JumpCond) (e : Byte), P (Instr.jr c e))
    (on_ld_atnn_SP : ∀ (nn : Word), P (.ld_atnn_SP nn))
    (on_ld_atHL_n : ∀ (n : Byte), P (.ld_atHL_n n))
    (on_ld_SP_HL : P .ld_SP_HL)
    (on_nop : P .nop)
    (on_ret : P .ret)
    (on_call_nn : ∀ (nn : Word), P (.call_nn nn))
    (on_escape : P .escape) (i : Instr) : P i := by
  cases i with
  | ld_BC_nn nn => exact on_ldRpNN .bc nn
  | ld_atBC_A => exact on_ldMemA .atBC
  | ld_B_n n => exact on_ldRN .b n
  | ld_atnn_SP nn => exact on_ld_atnn_SP nn
  | ld_A_atBC => exact on_ldAMem .atBC
  | ld_C_n n => exact on_ldRN .c n
  | ld_DE_nn nn => exact on_ldRpNN .de nn
  | ld_atDE_A => exact on_ldMemA .atDE
  | ld_D_n n => exact on_ldRN .d n
  | ld_A_atDE => exact on_ldAMem .atDE
  | ld_E_n n => exact on_ldRN .e n
  | ld_HL_nn nn => exact on_ldRpNN .hl nn
  | ld_atHLplus_A => exact on_ldStepA .plus
  | ld_H_n n => exact on_ldRN .h n
  | ld_A_atHLplus => exact on_ldAStep .plus
  | ld_L_n n => exact on_ldRN .l n
  | ld_SP_nn nn => exact on_ldRpNN .sp nn
  | ld_atHLminus_A => exact on_ldStepA .minus
  | ld_atHL_n n => exact on_ld_atHL_n n
  | ld_A_atHLminus => exact on_ldAStep .minus
  | ld_A_n n => exact on_ldRN .a n
  | ld_B_B => exact on_ldRR .b .b
  | ld_B_C => exact on_ldRR .b .c
  | ld_B_D => exact on_ldRR .b .d
  | ld_B_E => exact on_ldRR .b .e
  | ld_B_H => exact on_ldRR .b .h
  | ld_B_L => exact on_ldRR .b .l
  | ld_B_atHL => exact on_ldRAtHL .b
  | ld_B_A => exact on_ldRR .b .a
  | ld_C_B => exact on_ldRR .c .b
  | ld_C_C => exact on_ldRR .c .c
  | ld_C_D => exact on_ldRR .c .d
  | ld_C_E => exact on_ldRR .c .e
  | ld_C_H => exact on_ldRR .c .h
  | ld_C_L => exact on_ldRR .c .l
  | ld_C_atHL => exact on_ldRAtHL .c
  | ld_C_A => exact on_ldRR .c .a
  | ld_D_B => exact on_ldRR .d .b
  | ld_D_C => exact on_ldRR .d .c
  | ld_D_D => exact on_ldRR .d .d
  | ld_D_E => exact on_ldRR .d .e
  | ld_D_H => exact on_ldRR .d .h
  | ld_D_L => exact on_ldRR .d .l
  | ld_D_atHL => exact on_ldRAtHL .d
  | ld_D_A => exact on_ldRR .d .a
  | ld_E_B => exact on_ldRR .e .b
  | ld_E_C => exact on_ldRR .e .c
  | ld_E_D => exact on_ldRR .e .d
  | ld_E_E => exact on_ldRR .e .e
  | ld_E_H => exact on_ldRR .e .h
  | ld_E_L => exact on_ldRR .e .l
  | ld_E_atHL => exact on_ldRAtHL .e
  | ld_E_A => exact on_ldRR .e .a
  | ld_H_B => exact on_ldRR .h .b
  | ld_H_C => exact on_ldRR .h .c
  | ld_H_D => exact on_ldRR .h .d
  | ld_H_E => exact on_ldRR .h .e
  | ld_H_H => exact on_ldRR .h .h
  | ld_H_L => exact on_ldRR .h .l
  | ld_H_atHL => exact on_ldRAtHL .h
  | ld_H_A => exact on_ldRR .h .a
  | ld_L_B => exact on_ldRR .l .b
  | ld_L_C => exact on_ldRR .l .c
  | ld_L_D => exact on_ldRR .l .d
  | ld_L_E => exact on_ldRR .l .e
  | ld_L_H => exact on_ldRR .l .h
  | ld_L_L => exact on_ldRR .l .l
  | ld_L_atHL => exact on_ldRAtHL .l
  | ld_L_A => exact on_ldRR .l .a
  | ld_atHL_B => exact on_ldAtHLR .b
  | ld_atHL_C => exact on_ldAtHLR .c
  | ld_atHL_D => exact on_ldAtHLR .d
  | ld_atHL_E => exact on_ldAtHLR .e
  | ld_atHL_H => exact on_ldAtHLR .h
  | ld_atHL_L => exact on_ldAtHLR .l
  | ld_atHL_A => exact on_ldAtHLR .a
  | ld_A_B => exact on_ldRR .a .b
  | ld_A_C => exact on_ldRR .a .c
  | ld_A_D => exact on_ldRR .a .d
  | ld_A_E => exact on_ldRR .a .e
  | ld_A_H => exact on_ldRR .a .h
  | ld_A_L => exact on_ldRR .a .l
  | ld_A_atHL => exact on_ldRAtHL .a
  | ld_A_A => exact on_ldRR .a .a
  | ldh_atn_A n => exact on_ldMemA (.highN n)
  | ld_atC_A => exact on_ldMemA .highC
  | ld_atnn_A nn => exact on_ldMemA (.atNN nn)
  | ldh_A_atn n => exact on_ldAMem (.highN n)
  | ld_A_atC => exact on_ldAMem .highC
  | ld_SP_HL => exact on_ld_SP_HL
  | ld_A_atnn nn => exact on_ldAMem (.atNN nn)
  | inc_B => exact on_incLoc (.r .b)
  | dec_B => exact on_decLoc (.r .b)
  | inc_C => exact on_incLoc (.r .c)
  | dec_C => exact on_decLoc (.r .c)
  | inc_D => exact on_incLoc (.r .d)
  | dec_D => exact on_decLoc (.r .d)
  | inc_E => exact on_incLoc (.r .e)
  | dec_E => exact on_decLoc (.r .e)
  | inc_H => exact on_incLoc (.r .h)
  | dec_H => exact on_decLoc (.r .h)
  | inc_L => exact on_incLoc (.r .l)
  | dec_L => exact on_decLoc (.r .l)
  | inc_atHL => exact on_incLoc .atHL
  | dec_atHL => exact on_decLoc .atHL
  | inc_A => exact on_incLoc (.r .a)
  | dec_A => exact on_decLoc (.r .a)
  | add_A_B => exact on_addA (.r .b)
  | add_A_C => exact on_addA (.r .c)
  | add_A_D => exact on_addA (.r .d)
  | add_A_E => exact on_addA (.r .e)
  | add_A_H => exact on_addA (.r .h)
  | add_A_L => exact on_addA (.r .l)
  | add_A_atHL => exact on_addA .atHL
  | add_A_A => exact on_addA (.r .a)
  | sub_B => exact on_subA (.r .b)
  | sub_C => exact on_subA (.r .c)
  | sub_D => exact on_subA (.r .d)
  | sub_E => exact on_subA (.r .e)
  | sub_H => exact on_subA (.r .h)
  | sub_L => exact on_subA (.r .l)
  | sub_atHL => exact on_subA .atHL
  | sub_A => exact on_subA (.r .a)
  | sbc_A_B => exact on_sbcA (.r .b)
  | sbc_A_C => exact on_sbcA (.r .c)
  | sbc_A_D => exact on_sbcA (.r .d)
  | sbc_A_E => exact on_sbcA (.r .e)
  | sbc_A_H => exact on_sbcA (.r .h)
  | sbc_A_L => exact on_sbcA (.r .l)
  | sbc_A_atHL => exact on_sbcA .atHL
  | sbc_A_A => exact on_sbcA (.r .a)
  | xor_B => exact on_xorA (.r .b)
  | xor_C => exact on_xorA (.r .c)
  | xor_D => exact on_xorA (.r .d)
  | xor_E => exact on_xorA (.r .e)
  | xor_H => exact on_xorA (.r .h)
  | xor_L => exact on_xorA (.r .l)
  | xor_atHL => exact on_xorA .atHL
  | xor_A => exact on_xorA (.r .a)
  | cp_B => exact on_cpA (.r .b)
  | cp_C => exact on_cpA (.r .c)
  | cp_D => exact on_cpA (.r .d)
  | cp_E => exact on_cpA (.r .e)
  | cp_H => exact on_cpA (.r .h)
  | cp_L => exact on_cpA (.r .l)
  | cp_atHL => exact on_cpA .atHL
  | cp_A => exact on_cpA (.r .a)
  | add_A_n v => exact on_addA (.n v)
  | sub_n v => exact on_subA (.n v)
  | sbc_A_n v => exact on_sbcA (.n v)
  | xor_n v => exact on_xorA (.n v)
  | cp_n v => exact on_cpA (.n v)
  | inc_BC => exact on_incRp .bc
  | add_HL_BC => exact on_addHL .bc
  | dec_BC => exact on_decRp .bc
  | inc_DE => exact on_incRp .de
  | add_HL_DE => exact on_addHL .de
  | dec_DE => exact on_decRp .de
  | inc_HL => exact on_incRp .hl
  | add_HL_HL => exact on_addHL .hl
  | dec_HL => exact on_decRp .hl
  | inc_SP => exact on_incRp .sp
  | add_HL_SP => exact on_addHL .sp
  | dec_SP => exact on_decRp .sp
  | nop => exact on_nop
  | jr_e e => exact on_jr .always e
  | jr_NZ_e e => exact on_jr .nz e
  | jr_Z_e e => exact on_jr .z e
  | pop_BC => exact on_pop .bc
  | push_BC => exact on_push .bc
  | ret => exact on_ret
  | call_nn nn => exact on_call_nn nn
  | pop_DE => exact on_pop .de
  | push_DE => exact on_push .de
  | pop_HL => exact on_pop .hl
  | push_HL => exact on_push .hl
  | pop_AF => exact on_pop .af
  | push_AF => exact on_push .af
  | escape => exact on_escape
  | rlca => exact on_rotA .rlc
  | rrca => exact on_rotA .rrc
  | rla => exact on_rotA .rl
  | rra => exact on_rotA .rr
  | rlc_B => exact on_rotLoc .rlc (.r .b)
  | rlc_C => exact on_rotLoc .rlc (.r .c)
  | rlc_D => exact on_rotLoc .rlc (.r .d)
  | rlc_E => exact on_rotLoc .rlc (.r .e)
  | rlc_H => exact on_rotLoc .rlc (.r .h)
  | rlc_L => exact on_rotLoc .rlc (.r .l)
  | rlc_atHL => exact on_rotLoc .rlc .atHL
  | rlc_A => exact on_rotLoc .rlc (.r .a)
  | rrc_B => exact on_rotLoc .rrc (.r .b)
  | rrc_C => exact on_rotLoc .rrc (.r .c)
  | rrc_D => exact on_rotLoc .rrc (.r .d)
  | rrc_E => exact on_rotLoc .rrc (.r .e)
  | rrc_H => exact on_rotLoc .rrc (.r .h)
  | rrc_L => exact on_rotLoc .rrc (.r .l)
  | rrc_atHL => exact on_rotLoc .rrc .atHL
  | rrc_A => exact on_rotLoc .rrc (.r .a)
  | rl_B => exact on_rotLoc .rl (.r .b)
  | rl_C => exact on_rotLoc .rl (.r .c)
  | rl_D => exact on_rotLoc .rl (.r .d)
  | rl_E => exact on_rotLoc .rl (.r .e)
  | rl_H => exact on_rotLoc .rl (.r .h)
  | rl_L => exact on_rotLoc .rl (.r .l)
  | rl_atHL => exact on_rotLoc .rl .atHL
  | rl_A => exact on_rotLoc .rl (.r .a)
  | rr_B => exact on_rotLoc .rr (.r .b)
  | rr_C => exact on_rotLoc .rr (.r .c)
  | rr_D => exact on_rotLoc .rr (.r .d)
  | rr_E => exact on_rotLoc .rr (.r .e)
  | rr_H => exact on_rotLoc .rr (.r .h)
  | rr_L => exact on_rotLoc .rr (.r .l)
  | rr_atHL => exact on_rotLoc .rr .atHL
  | rr_A => exact on_rotLoc .rr (.r .a)
  | bit_0_B => exact on_bitLoc 0 (.r .b)
  | bit_0_C => exact on_bitLoc 0 (.r .c)
  | bit_0_D => exact on_bitLoc 0 (.r .d)
  | bit_0_E => exact on_bitLoc 0 (.r .e)
  | bit_0_H => exact on_bitLoc 0 (.r .h)
  | bit_0_L => exact on_bitLoc 0 (.r .l)
  | bit_0_atHL => exact on_bitLoc 0 .atHL
  | bit_0_A => exact on_bitLoc 0 (.r .a)
  | bit_1_B => exact on_bitLoc 1 (.r .b)
  | bit_1_C => exact on_bitLoc 1 (.r .c)
  | bit_1_D => exact on_bitLoc 1 (.r .d)
  | bit_1_E => exact on_bitLoc 1 (.r .e)
  | bit_1_H => exact on_bitLoc 1 (.r .h)
  | bit_1_L => exact on_bitLoc 1 (.r .l)
  | bit_1_atHL => exact on_bitLoc 1 .atHL
  | bit_1_A => exact on_bitLoc 1 (.r .a)
  | bit_2_B => exact on_bitLoc 2 (.r .b)
  | bit_2_C => exact on_bitLoc 2 (.r .c)
  | bit_2_D => exact on_bitLoc 2 (.r .d)
  | bit_2_E => exact on_bitLoc 2 (.r .e)
  | bit_2_H => exact on_bitLoc 2 (.r .h)
  | bit_2_L => exact on_bitLoc 2 (.r .l)
  | bit_2_atHL => exact on_bitLoc 2 .atHL
  | bit_2_A => exact on_bitLoc 2 (.r .a)
  | bit_3_B => exact on_bitLoc 3 (.r .b)
  | bit_3_C => exact on_bitLoc 3 (.r .c)
  | bit_3_D => exact on_bitLoc 3 (.r .d)
  | bit_3_E => exact on_bitLoc 3 (.r .e)
  | bit_3_H => exact on_bitLoc 3 (.r .h)
  | bit_3_L => exact on_bitLoc 3 (.r .l)
  | bit_3_atHL => exact on_bitLoc 3 .atHL
  | bit_3_A => exact on_bitLoc 3 (.r .a)
  | bit_4_B => exact on_bitLoc 4 (.r .b)
  | bit_4_C => exact on_bitLoc 4 (.r .c)
  | bit_4_D => exact on_bitLoc 4 (.r .d)
  | bit_4_E => exact on_bitLoc 4 (.r .e)
  | bit_4_H => exact on_bitLoc 4 (.r .h)
  | bit_4_L => exact on_bitLoc 4 (.r .l)
  | bit_4_atHL => exact on_bitLoc 4 .atHL
  | bit_4_A => exact on_bitLoc 4 (.r .a)
  | bit_5_B => exact on_bitLoc 5 (.r .b)
  | bit_5_C => exact on_bitLoc 5 (.r .c)
  | bit_5_D => exact on_bitLoc 5 (.r .d)
  | bit_5_E => exact on_bitLoc 5 (.r .e)
  | bit_5_H => exact on_bitLoc 5 (.r .h)
  | bit_5_L => exact on_bitLoc 5 (.r .l)
  | bit_5_atHL => exact on_bitLoc 5 .atHL
  | bit_5_A => exact on_bitLoc 5 (.r .a)
  | bit_6_B => exact on_bitLoc 6 (.r .b)
  | bit_6_C => exact on_bitLoc 6 (.r .c)
  | bit_6_D => exact on_bitLoc 6 (.r .d)
  | bit_6_E => exact on_bitLoc 6 (.r .e)
  | bit_6_H => exact on_bitLoc 6 (.r .h)
  | bit_6_L => exact on_bitLoc 6 (.r .l)
  | bit_6_atHL => exact on_bitLoc 6 .atHL
  | bit_6_A => exact on_bitLoc 6 (.r .a)
  | bit_7_B => exact on_bitLoc 7 (.r .b)
  | bit_7_C => exact on_bitLoc 7 (.r .c)
  | bit_7_D => exact on_bitLoc 7 (.r .d)
  | bit_7_E => exact on_bitLoc 7 (.r .e)
  | bit_7_H => exact on_bitLoc 7 (.r .h)
  | bit_7_L => exact on_bitLoc 7 (.r .l)
  | bit_7_atHL => exact on_bitLoc 7 .atHL
  | bit_7_A => exact on_bitLoc 7 (.r .a)

end Sys2Proof
end

