-- ==== Sys2Proof/Laws/State.lean ====
section
/-! SUPPORT. What each named update of the state leaves and sets: one lemma per update and reader. -/

namespace Sys2Proof.Machine

@[simp] theorem State.set8_sp (s : State) (r : Reg) (v : Byte) : (s.set8 r v).sp = s.sp := by cases r <;> rfl
@[simp] theorem State.set8_pc (s : State) (r : Reg) (v : Byte) : (s.set8 r v).pc = s.pc := by cases r <;> rfl
@[simp] theorem State.set8_mem (s : State) (r : Reg) (v : Byte) : (s.set8 r v).mem = s.mem := by cases r <;> rfl
@[simp] theorem State.set8_status (s : State) (r : Reg) (v : Byte) : (s.set8 r v).status = s.status := by cases r <;> rfl
@[simp] theorem State.set8_trace (s : State) (r : Reg) (v : Byte) : (s.set8 r v).trace = s.trace := by cases r <;> rfl

theorem State.get8_set8_self (s : State) (r : Reg) (v : Byte) :
    (s.set8 r v).get8 r = if r = .f then v &&& 0xF0#8 else v := by cases r <;> rfl

@[simp] theorem State.get8_set8_greg (s : State) (g : GReg) (v : Byte) : (s.set8 g.reg v).get8 g.reg = v := by
  cases g <;> rfl

@[simp] theorem State.get8_set8_f (s : State) (v : Byte) : (s.set8 .f v).get8 .f = v &&& 0xF0#8 := rfl

@[simp] theorem State.get8_set8_ne (s : State) {r q : Reg} (v : Byte) (h : q ≠ r) : (s.set8 r v).get8 q = s.get8 q := by
  cases r <;> cases q <;> first | rfl | exact absurd rfl h

@[simp] theorem State.setPc_pc (s : State) (v : Word) : (s.setPc v).pc = v := rfl
@[simp] theorem State.setPc_sp (s : State) (v : Word) : (s.setPc v).sp = s.sp := rfl
@[simp] theorem State.setPc_mem (s : State) (v : Word) : (s.setPc v).mem = s.mem := rfl
@[simp] theorem State.setPc_status (s : State) (v : Word) : (s.setPc v).status = s.status := rfl
@[simp] theorem State.setPc_trace (s : State) (v : Word) : (s.setPc v).trace = s.trace := rfl
@[simp] theorem State.setPc_get8 (s : State) (v : Word) (r : Reg) : (s.setPc v).get8 r = s.get8 r := by cases r <;> rfl

@[simp] theorem State.setSp_sp (s : State) (v : Word) : (s.setSp v).sp = v := rfl
@[simp] theorem State.setSp_pc (s : State) (v : Word) : (s.setSp v).pc = s.pc := rfl
@[simp] theorem State.setSp_mem (s : State) (v : Word) : (s.setSp v).mem = s.mem := rfl
@[simp] theorem State.setSp_status (s : State) (v : Word) : (s.setSp v).status = s.status := rfl
@[simp] theorem State.setSp_trace (s : State) (v : Word) : (s.setSp v).trace = s.trace := rfl
@[simp] theorem State.setSp_get8 (s : State) (v : Word) (r : Reg) : (s.setSp v).get8 r = s.get8 r := by cases r <;> rfl

@[simp] theorem State.setMem_mem (s : State) (m : Memory) : (s.setMem m).mem = m := rfl
@[simp] theorem State.setMem_sp (s : State) (m : Memory) : (s.setMem m).sp = s.sp := rfl
@[simp] theorem State.setMem_pc (s : State) (m : Memory) : (s.setMem m).pc = s.pc := rfl
@[simp] theorem State.setMem_status (s : State) (m : Memory) : (s.setMem m).status = s.status := rfl
@[simp] theorem State.setMem_trace (s : State) (m : Memory) : (s.setMem m).trace = s.trace := rfl
@[simp] theorem State.setMem_get8 (s : State) (m : Memory) (r : Reg) : (s.setMem m).get8 r = s.get8 r := by cases r <;> rfl

@[simp] theorem State.setStatus_status (s : State) (x : Status) : (s.setStatus x).status = x := rfl
@[simp] theorem State.setStatus_sp (s : State) (x : Status) : (s.setStatus x).sp = s.sp := rfl
@[simp] theorem State.setStatus_pc (s : State) (x : Status) : (s.setStatus x).pc = s.pc := rfl
@[simp] theorem State.setStatus_mem (s : State) (x : Status) : (s.setStatus x).mem = s.mem := rfl
@[simp] theorem State.setStatus_trace (s : State) (x : Status) : (s.setStatus x).trace = s.trace := rfl
@[simp] theorem State.setStatus_get8 (s : State) (x : Status) (r : Reg) : (s.setStatus x).get8 r = s.get8 r := by
  cases r <;> rfl

@[simp] theorem State.addTrace_trace (s : State) (x : TraceRecord) : (s.addTrace x).trace = x :: s.trace := rfl
@[simp] theorem State.addTrace_sp (s : State) (x : TraceRecord) : (s.addTrace x).sp = s.sp := rfl
@[simp] theorem State.addTrace_pc (s : State) (x : TraceRecord) : (s.addTrace x).pc = s.pc := rfl
@[simp] theorem State.addTrace_mem (s : State) (x : TraceRecord) : (s.addTrace x).mem = s.mem := rfl
@[simp] theorem State.addTrace_status (s : State) (x : TraceRecord) : (s.addTrace x).status = s.status := rfl
@[simp] theorem State.addTrace_get8 (s : State) (x : TraceRecord) (r : Reg) : (s.addTrace x).get8 r = s.get8 r := by
  cases r <;> rfl

@[simp] theorem State.set16_sp (s : State) (p : Pair) (v : Word) : (s.set16 p v).sp = s.sp := by simp [State.set16]
@[simp] theorem State.set16_pc (s : State) (p : Pair) (v : Word) : (s.set16 p v).pc = s.pc := by simp [State.set16]
@[simp] theorem State.set16_mem (s : State) (p : Pair) (v : Word) : (s.set16 p v).mem = s.mem := by simp [State.set16]
@[simp] theorem State.set16_status (s : State) (p : Pair) (v : Word) : (s.set16 p v).status = s.status := by
  simp [State.set16]
@[simp] theorem State.set16_trace (s : State) (p : Pair) (v : Word) : (s.set16 p v).trace = s.trace := by simp [State.set16]

@[simp] theorem State.get8_set16_ne (s : State) (p : Pair) (v : Word) {q : Reg} (hh : q ≠ pairHi p) (hl : q ≠ pairLo p) :
    (s.set16 p v).get8 q = s.get8 q := by simp [State.set16, hh, hl]

theorem State.get8_set16_hi (s : State) (p : Pair) (v : Word) : (s.set16 p v).get8 (pairHi p) = hiByte v := by
  cases p <;> rfl

theorem State.get8_set16_lo (s : State) (p : Pair) (v : Word) :
    (s.set16 p v).get8 (pairLo p) = if p = .af then loByte v &&& 0xF0#8 else loByte v := by cases p <;> rfl

/-- `x[rr] <- v` and then `x[rr] = v` for a pair other than `AF` (10_state.md R21). -/
theorem State.get16_set16 (s : State) {p : Pair} (v : Word) (h : p ≠ .af) : (s.set16 p v).get16 p = v := by
  cases p <;> first | exact wordOf_hiByte_loByte v | exact absurd rfl h

@[simp] theorem State.setRp_mem (s : State) (p : Rp) (v : Word) : (s.setRp p v).mem = s.mem := by
  cases p <;> simp [State.setRp]
@[simp] theorem State.setRp_pc (s : State) (p : Rp) (v : Word) : (s.setRp p v).pc = s.pc := by cases p <;> simp [State.setRp]
@[simp] theorem State.setRp_status (s : State) (p : Rp) (v : Word) : (s.setRp p v).status = s.status := by
  cases p <;> simp [State.setRp]
@[simp] theorem State.setRp_trace (s : State) (p : Rp) (v : Word) : (s.setRp p v).trace = s.trace := by
  cases p <;> simp [State.setRp]

/-- A pair operand or `sp` reads back what was written. -/
theorem State.getRp_setRp (s : State) (p : Rp) (v : Word) : (s.setRp p v).getRp p = v := by
  cases p <;> first | rfl | exact State.get16_set16 s v (by decide)

end Sys2Proof.Machine
end

