-- ==== Sys2Proof/Laws/Memory.lean ====
section
/-! SUPPORT. Laws of memory: lists of cells, routing, one byte read after one byte written, and the canonical form. -/

namespace Sys2Proof.Machine

/-! ## Lists of cells -/

theorem Cells.read_erase_self (d : Nat → Byte) (l : List Host.Cell) (i : Nat) : Cells.read d (Cells.erase l i) i = d i := by
  induction l with
  | nil => rfl
  | cons c rest ih =>
    obtain ⟨j, w⟩ := c
    by_cases h : j = i
    · simp [Cells.erase, h, ih]
    · simp [Cells.erase, Cells.read, h, ih, Ne.symm h]

theorem Cells.read_erase_ne (d : Nat → Byte) (l : List Host.Cell) {i k : Nat} (h : k ≠ i) :
    Cells.read d (Cells.erase l i) k = Cells.read d l k := by
  induction l with
  | nil => rfl
  | cons c rest ih =>
    obtain ⟨j, w⟩ := c
    by_cases hj : j = i
    · subst hj
      simp [Cells.erase, Cells.read, ih, h]
    · simp [Cells.erase, Cells.read, hj, ih]

theorem Cells.read_insert_ne (d : Nat → Byte) (l : List Host.Cell) {i k : Nat} (v : Byte) (h : k ≠ i) :
    Cells.read d (Cells.insert l i v) k = Cells.read d l k := by
  induction l with
  | nil => simp [Cells.insert, Cells.read, h]
  | cons c rest ih =>
    obtain ⟨j, w⟩ := c
    by_cases hj : i < j
    · simp [Cells.insert, Cells.read, hj, h]
    · simp [Cells.insert, Cells.read, hj, ih]

theorem Cells.read_insert_erase (d : Nat → Byte) (l : List Host.Cell) (i : Nat) (v : Byte) :
    Cells.read d (Cells.insert (Cells.erase l i) i v) i = v := by
  induction l with
  | nil => simp [Cells.erase, Cells.insert, Cells.read]
  | cons c rest ih =>
    obtain ⟨j, w⟩ := c
    by_cases hj : j = i
    · simp [Cells.erase, hj, ih]
    · by_cases hlt : i < j
      · simp [Cells.erase, Cells.insert, Cells.read, hj, hlt]
      · simp [Cells.erase, Cells.insert, Cells.read, hj, hlt, Ne.symm hj, ih]

/-- What is read is what was last written at the index. -/
@[simp] theorem Cells.read_write_self (d : Nat → Byte) (l : List Host.Cell) (i : Nat) (v : Byte) :
    Cells.read d (Cells.write d l i v) i = v := by
  unfold Cells.write
  split
  · rename_i h
    rw [Cells.read_erase_self, h]
  · exact Cells.read_insert_erase d l i v

/-- A write leaves every other index. -/
theorem Cells.read_write_ne (d : Nat → Byte) (l : List Host.Cell) {i k : Nat} (v : Byte) (h : k ≠ i) :
    Cells.read d (Cells.write d l i v) k = Cells.read d l k := by
  unfold Cells.write
  split
  · exact Cells.read_erase_ne d l h
  · rw [Cells.read_insert_ne d _ v h, Cells.read_erase_ne d l h]

theorem Cells.wf_mono {d : Nat → Byte} {size lo lo' : Nat} {l : List Host.Cell} (h : lo' ≤ lo)
    (hw : Cells.wf d size lo l = true) : Cells.wf d size lo' l = true := by
  cases l with
  | nil => rfl
  | cons c rest =>
    obtain ⟨j, w⟩ := c
    simp only [Cells.wf, Bool.and_eq_true, decide_eq_true_eq] at hw ⊢
    exact ⟨⟨by omega, hw.1.2⟩, hw.2⟩

theorem Cells.wf_erase {d : Nat → Byte} {size lo : Nat} {l : List Host.Cell} (i : Nat) (hw : Cells.wf d size lo l = true) :
    Cells.wf d size lo (Cells.erase l i) = true := by
  induction l generalizing lo with
  | nil => rfl
  | cons c rest ih =>
    obtain ⟨j, w⟩ := c
    simp only [Cells.wf, Bool.and_eq_true, decide_eq_true_eq] at hw
    by_cases hj : j = i
    · simp only [Cells.erase, hj, if_true]
      exact Cells.wf_mono (by omega) (ih hw.2)
    · simp only [Cells.erase, hj, if_false, Cells.wf, Bool.and_eq_true, decide_eq_true_eq]
      exact ⟨hw.1, ih hw.2⟩

theorem Cells.wf_insert_erase {d : Nat → Byte} {size lo i : Nat} {v : Byte} {l : List Host.Cell} (hlo : lo ≤ i)
    (hi : i < size) (hv : v ≠ d i) (hw : Cells.wf d size lo l = true) :
    Cells.wf d size lo (Cells.insert (Cells.erase l i) i v) = true := by
  induction l generalizing lo with
  | nil => simp [Cells.erase, Cells.insert, Cells.wf, hlo, hi, hv]
  | cons c rest ih =>
    obtain ⟨j, w⟩ := c
    simp only [Cells.wf, Bool.and_eq_true, decide_eq_true_eq] at hw
    by_cases hj : j = i
    · subst hj
      simp only [Cells.erase, if_true]
      have hr : Cells.wf d size lo rest = true := Cells.wf_mono (by omega) hw.2
      exact ih hlo hr
    · by_cases hlt : i < j
      · simp only [Cells.erase, hj, if_false, Cells.insert, hlt, if_true, Cells.wf, Bool.and_eq_true, decide_eq_true_eq]
        exact ⟨⟨hlo, hi, hv⟩, ⟨by omega, hw.1.2⟩, Cells.wf_erase i hw.2⟩
      · simp only [Cells.erase, hj, if_false, Cells.insert, hlt, Cells.wf, Bool.and_eq_true, decide_eq_true_eq]
        exact ⟨hw.1, ih (by omega) hw.2⟩

/-- A write keeps the canonical form. -/
theorem Cells.wf_write {d : Nat → Byte} {size i : Nat} {l : List Host.Cell} (v : Byte) (hi : i < size)
    (hw : Cells.wf d size 0 l = true) : Cells.wf d size 0 (Cells.write d l i v) = true := by
  unfold Cells.write
  split
  · exact Cells.wf_erase i hw
  · rename_i hv
    exact Cells.wf_insert_erase (by omega) hi hv hw

/-- A list in canonical form from `lo` holds nothing below `lo`. -/
theorem Cells.read_of_lt {d : Nat → Byte} {size lo i : Nat} {l : List Host.Cell} (hw : Cells.wf d size lo l = true)
    (h : i < lo) : Cells.read d l i = d i := by
  induction l generalizing lo with
  | nil => rfl
  | cons c rest ih =>
    obtain ⟨j, w⟩ := c
    simp only [Cells.wf, Bool.and_eq_true, decide_eq_true_eq] at hw
    simp only [Cells.read, if_neg (show ¬i = j by omega)]
    exact ih hw.2 (by omega)

/-- Two lists in canonical form that read alike are the same list. -/
theorem Cells.ext_of_read {d : Nat → Byte} {size lo : Nat} {l m : List Host.Cell} (hl : Cells.wf d size lo l = true)
    (hm : Cells.wf d size lo m = true) (h : ∀ i, Cells.read d l i = Cells.read d m i) : l = m := by
  induction l generalizing lo m with
  | nil =>
    cases m with
    | nil => rfl
    | cons c rest =>
      obtain ⟨j, w⟩ := c
      simp only [Cells.wf, Bool.and_eq_true, decide_eq_true_eq] at hm
      have := h j
      simp only [Cells.read, if_true] at this
      exact absurd this.symm hm.1.2.2
  | cons c rest ih =>
    obtain ⟨j, w⟩ := c
    cases m with
    | nil =>
      simp only [Cells.wf, Bool.and_eq_true, decide_eq_true_eq] at hl
      have := h j
      simp only [Cells.read, if_true] at this
      exact absurd this hl.1.2.2
    | cons c' rest' =>
      obtain ⟨k, x⟩ := c'
      simp only [Cells.wf, Bool.and_eq_true, decide_eq_true_eq] at hl hm
      have hjk : j = k := by
        rcases Nat.lt_trichotomy j k with hlt | he | hgt
        · have h1 := h j
          simp only [Cells.read, if_true, if_neg (show ¬j = k by omega),
            Cells.read_of_lt hm.2 (show j < k + 1 by omega)] at h1
          exact absurd h1 hl.1.2.2
        · exact he
        · have h1 := h k
          simp only [Cells.read, if_true, if_neg (show ¬k = j by omega),
            Cells.read_of_lt hl.2 (show k < j + 1 by omega)] at h1
          exact absurd h1.symm hm.1.2.2
      subst hjk
      have hwx : w = x := by simpa [Cells.read] using h j
      subst hwx
      congr 1
      refine ih hl.2 hm.2 fun i => ?_
      by_cases hi : i = j
      · subst hi
        rw [Cells.read_of_lt hl.2 (by omega), Cells.read_of_lt hm.2 (by omega)]
      · simpa [Cells.read, hi] using h i

/-! ## Stores -/

@[simp] theorem Memory.cells_setCells_self (m : Memory) (st : StoreId) (l : List Host.Cell) (h : st ≠ .ie) :
    (m.setCells st l).cells st = l := by cases st <;> first | rfl | exact absurd rfl h

@[simp] theorem Memory.cells_setCells_ne (m : Memory) {st u : StoreId} (l : List Host.Cell) (h : u ≠ st) :
    (m.setCells st l).cells u = m.cells u := by cases st <;> cases u <;> first | rfl | exact absurd rfl h

@[simp] theorem Memory.setCells_romSource (m : Memory) (st : StoreId) (l : List Host.Cell) :
    (m.setCells st l).romSource = m.romSource := by cases st <;> rfl

@[simp] theorem Memory.setCells_ie (m : Memory) (st : StoreId) (l : List Host.Cell) : (m.setCells st l).ie = m.ie := by
  cases st <;> rfl

@[simp] theorem Memory.writeStore_romSource (m : Memory) (st : StoreId) (i : Nat) (v : Byte) :
    (m.writeStore st i v).romSource = m.romSource := by unfold Memory.writeStore; split <;> simp

/-- A store byte reads back what was written (20_memory.md R57, R58). The one-byte store is read at any index. -/
theorem Memory.readStore_writeStore_self (m : Memory) (st : StoreId) (i : Nat) (v : Byte) :
    (m.writeStore st i v).readStore st i = v := by
  unfold Memory.writeStore Memory.readStore
  by_cases h : st = .ie
  · simp [h]
  · simp [h]

/-- A write of one store leaves every other store (R58). -/
theorem Memory.readStore_writeStore_store (m : Memory) {st u : StoreId} (i k : Nat) (v : Byte) (h : u ≠ st) :
    (m.writeStore st i v).readStore u k = m.readStore u k := by
  by_cases he : st = .ie
  · subst he
    simp only [Memory.writeStore, Memory.readStore, if_true, if_neg h]
    cases u <;> rfl
  · simp [Memory.writeStore, Memory.readStore, he, h]

/-- A write leaves every other byte of a listed store (R58). -/
theorem Memory.readStore_writeStore_index (m : Memory) {st : StoreId} {i k : Nat} (v : Byte) (hst : st ≠ .ie) (h : k ≠ i) :
    (m.writeStore st i v).readStore st k = m.readStore st k := by
  simp [Memory.writeStore, Memory.readStore, hst, Cells.read_write_ne _ _ _ h]

/-! ## Routing -/

/-- The first address of a store (20_memory.md R53). -/
def Store.base : StoreId → Nat
  | .romBank0 => 0x0000
  | .romBankN => 0x4000
  | .vram => 0x8000
  | .eram => 0xA000
  | .wramBank0 => 0xC000
  | .wramBankN => 0xD000
  | .echo => 0xE000
  | .oam => 0xFE00
  | .io => 0xFF00
  | .hram => 0xFF80
  | .ie => 0xFFFF

/-- Where an address is routed says which address it is; the index is within the store's size (R53). -/
theorem route_some {a : Word} {st : StoreId} {i : Nat} (h : route a = some (st, i)) :
    a.toNat = Store.base st + i ∧ i < Store.size st := by
  have hlt := a.isLt
  unfold route at h
  dsimp only at h
  repeat' split at h
  all_goals first
    | (simp only [Option.some.injEq, Prod.mk.injEq] at h
       obtain ⟨rfl, rfl⟩ := h
       simp only [Store.base, Store.size]
       omega)
    | exact absurd h (by simp)

theorem route_index_lt {a : Word} {st : StoreId} {i : Nat} (h : route a = some (st, i)) : i < Store.size st :=
  (route_some h).2

/-- An address of the Unused region, and no other, reaches no store (R53). -/
theorem route_eq_none {a : Word} : route a = none ↔ InUnused a := by
  unfold route InUnused
  dsimp only
  repeat' split
  all_goals simp
  all_goals omega

/-- Two addresses that reach the same byte are the same (R52, R53). -/
theorem route_inj {a b : Word} {x : StoreId × Nat} (ha : route a = some x) (hb : route b = some x) : a = b :=
  BitVec.eq_of_toNat_eq ((route_some ha).1.trans (route_some hb).1.symm)

/-! ## One byte -/

theorem Memory.peek_eq_none {m : Memory} {a : Word} : m.peek a = none ↔ InUnused a := by
  rw [← route_eq_none]
  unfold Memory.peek
  split <;> simp_all

/-- A byte poked into an address with a store is read there. -/
theorem Memory.peek_poke_self {m : Memory} {a : Word} {v : Byte} (h : ¬InUnused a) : (m.poke a v).peek a = some v := by
  cases hr : route a with
  | none => exact absurd (route_eq_none.mp hr) h
  | some x => simp [Memory.peek, Memory.poke, hr, Memory.readStore_writeStore_self]

/-- A poke leaves every other address. -/
theorem Memory.peek_poke_ne {m : Memory} {a b : Word} (v : Byte) (h : b ≠ a) : (m.poke a v).peek b = m.peek b := by
  unfold Memory.peek Memory.poke
  cases hb : route b with
  | none => rfl
  | some y =>
    cases ha : route a with
    | none => rfl
    | some x =>
      obtain ⟨st, i⟩ := x
      obtain ⟨u, k⟩ := y
      simp only [Option.some.injEq]
      by_cases hs : u = st
      · subst hs
        by_cases hk : k = i
        · subst hk
          exact absurd (route_inj hb ha) h
        · by_cases hie : u = .ie
          · subst hie
            have h1 := route_index_lt ha
            have h2 := route_index_lt hb
            simp only [Store.size] at h1 h2
            exact absurd (Nat.lt_one_iff.mp h2 ▸ (Nat.lt_one_iff.mp h1).symm ▸ rfl) hk
          · exact Memory.readStore_writeStore_index m v hie hk
      · exact Memory.readStore_writeStore_store m i k v hs

@[simp] theorem Memory.poke_romSource (m : Memory) (a : Word) (v : Byte) : (m.poke a v).romSource = m.romSource := by
  unfold Memory.poke
  split <;> simp

/-! ## Canonical form -/

/-- `wf` store by store. -/
theorem Memory.wf_iff {m : Memory} : m.wf = true ↔
    (∀ st, st ≠ .ie → Cells.wf (Store.unlisted m.romSource st) (Store.size st) 0 (m.cells st) = true) ∧
      (m.romSource = .preload ∨ (m.romBank0 = [] ∧ m.romBankN = [])) := by
  unfold Memory.wf
  simp only [Bool.and_eq_true, List.all_eq_true, Bool.or_eq_true, decide_eq_true_eq, List.isEmpty_iff]
  refine and_congr ⟨fun h st hst => h st ?_, fun h st hst => h st ?_⟩ Iff.rfl
  · cases st <;> first | exact absurd rfl hst | decide
  · rintro rfl
    exact absurd hst (by decide)

theorem Memory.wf_writeStore {m : Memory} {st : StoreId} {i : Nat} (v : Byte) (hw : m.wf = true) (hi : i < Store.size st)
    (hrom : m.romSource = .preload ∨ (st ≠ .romBank0 ∧ st ≠ .romBankN)) : (m.writeStore st i v).wf = true := by
  rw [Memory.wf_iff] at hw ⊢
  unfold Memory.writeStore
  split
  · refine ⟨fun u hu => ?_, hw.2⟩
    have := hw.1 u hu
    cases u <;> exact this
  · rename_i hie
    refine ⟨fun u hu => ?_, ?_⟩
    · by_cases hs : u = st
      · subst hs
        simp only [Memory.setCells_romSource, Memory.cells_setCells_self _ _ _ hie]
        exact Cells.wf_write v hi (hw.1 u hu)
      · simp only [Memory.setCells_romSource, Memory.cells_setCells_ne _ _ hs]
        exact hw.1 u hu
    · rcases hrom with h | ⟨h0, hN⟩
      · left
        simpa using h
      · refine hw.2.imp (fun h => by simpa using h) fun h => ?_
        have e0 := Memory.cells_setCells_ne m (u := .romBank0)
          (Cells.write (Store.unlisted m.romSource st) (m.cells st) i v) (Ne.symm h0)
        have eN := Memory.cells_setCells_ne m (u := .romBankN)
          (Cells.write (Store.unlisted m.romSource st) (m.cells st) i v) (Ne.symm hN)
        simp only [Memory.cells] at e0 eN
        exact ⟨e0.trans h.1, eN.trans h.2⟩

/-- A route out of ROM's addresses is to a store other than ROM's. -/
theorem route_not_rom {a : Word} {st : StoreId} {i : Nat} (h : route a = some (st, i)) (hr : ¬InRom a) :
    st ≠ .romBank0 ∧ st ≠ .romBankN := by
  have hs := route_some h
  unfold InRom at hr
  constructor <;> rintro rfl <;> simp only [Store.base, Store.size] at hs <;> omega

/-- Writing a byte outside ROM keeps the canonical form. -/
theorem Memory.wf_poke {m : Memory} {a : Word} (v : Byte) (hw : m.wf = true) (h : m.romSource = .preload ∨ ¬InRom a) :
    (m.poke a v).wf = true := by
  unfold Memory.poke
  split
  · exact hw
  · rename_i st i hr
    exact Memory.wf_writeStore v hw (route_index_lt hr) (h.imp id (route_not_rom hr))

/-- Giving ROM's contents from outside keeps the canonical form. -/
theorem Memory.wf_preloadByte {m : Memory} (a : Word) (v : Byte) (hw : m.wf = true) : (m.preloadByte a v).wf = true := by
  unfold Memory.preloadByte
  split
  · refine Memory.wf_poke v ?_ (.inl rfl)
    rw [Memory.wf_iff] at hw ⊢
    refine ⟨fun st hst => ?_, .inl rfl⟩
    rcases hw.2 with h | ⟨h0, _⟩
    · have := hw.1 st hst
      rw [h] at this
      exact this
    · have := hw.1 st hst
      cases st <;> first | exact this | (simp only [Memory.cells, h0]; rfl)
  · rename_i h
    exact Memory.wf_poke v hw (.inr h)

/-- Memory after reset is in canonical form. -/
theorem Memory.wf_reset : Memory.reset.wf = true := by decide

/-- Two memories in canonical form with the same source of ROM that read alike everywhere are the same memory. -/
theorem Memory.ext_of_readStore {m n : Memory} (hm : m.wf = true) (hn : n.wf = true) (hs : m.romSource = n.romSource)
    (h : ∀ st i, m.readStore st i = n.readStore st i) : m = n := by
  rw [Memory.wf_iff] at hm hn
  have hc : ∀ st, st ≠ .ie → m.cells st = n.cells st := fun st hst => by
    refine Cells.ext_of_read (hm.1 st hst) (hs ▸ hn.1 st hst) fun i => ?_
    have := h st i
    simp only [Memory.readStore, if_neg hst, ← hs] at this
    exact this
  have hie : m.ie = n.ie := by simpa [Memory.readStore] using h .ie 0
  obtain ⟨ms, m0, m1, m2, m3, m4, m5, m6, m7, m8, m9, mie⟩ := m
  obtain ⟨ns, n0, n1, n2, n3, n4, n5, n6, n7, n8, n9, nie⟩ := n
  have e0 := hc .romBank0 (by decide)
  have e1 := hc .romBankN (by decide)
  have e2 := hc .vram (by decide)
  have e3 := hc .eram (by decide)
  have e4 := hc .wramBank0 (by decide)
  have e5 := hc .wramBankN (by decide)
  have e6 := hc .echo (by decide)
  have e7 := hc .oam (by decide)
  have e8 := hc .io (by decide)
  have e9 := hc .hram (by decide)
  simp only [Memory.cells] at e0 e1 e2 e3 e4 e5 e6 e7 e8 e9 hie hs
  subst e0 e1 e2 e3 e4 e5 e6 e7 e8 e9 hie hs
  rfl

end Sys2Proof.Machine
end

