-- ==== Sys2Proof/Laws/Exec.lean ====
section
/-! SUPPORT. What each part of a step does: sequencing, register and memory access, fetch and stack, one lemma per case; then
frames and what a part of a step keeps. -/

namespace Sys2Proof.Machine

/-! ## Sequencing -/

@[simp] theorem bind_apply {α β : Type} (m : Exec α) (k : α → Exec β) (s : State) :
    (m >>= k) s = match m s with
      | .ok a t => k a t
      | .error f t => .error f t := by
  show EStateM.bind m k s = _
  unfold EStateM.bind
  cases m s <;> rfl

@[simp] theorem pure_apply {α : Type} (a : α) (s : State) : (pure a : Exec α) s = .ok a s := rfl
@[simp] theorem map_apply {α β : Type} (g : α → β) (m : Exec α) (s : State) :
    (g <$> m) s = match m s with
      | .ok a t => .ok (g a) t
      | .error f t => .error f t := by
  show EStateM.map g m s = _
  unfold EStateM.map
  cases m s <;> rfl
@[simp] theorem view_apply {α : Type} (g : State → α) (s : State) : view g s = .ok (g s) s := rfl
@[simp] theorem update_apply (g : State → State) (s : State) : update g s = .ok () (g s) := rfl
@[simp] theorem raise_apply {α : Type} (f : Fault) (s : State) : (raise f : Exec α) s = .error f s := rfl
@[simp] theorem readReg_apply (r : Reg) (s : State) : readReg r s = .ok (s.get8 r) s := rfl
@[simp] theorem writeReg_apply (r : Reg) (v : Byte) (s : State) : writeReg r v s = .ok () (s.set8 r v) := rfl

theorem complete_ok {m : Exec Unit} {s t : State} (h : m s = .ok () t) : complete m s = .next t := by
  simp [complete, h]

theorem complete_error {m : Exec Unit} {s t : State} {f : Fault} (h : m s = .error f t) :
    complete m s = .next (t.setStatus (.faulted f)) := by simp [complete, h, takeFault]

/-! ## Byte access (20_memory.md R57 to R61) -/

theorem peek_some_of_not_unused {s : State} {a : Word} (h : ¬InUnused a) : ∃ v, s.peek a = some v := by
  cases hp : s.peek a with
  | some v => exact ⟨v, rfl⟩
  | none => exact absurd (Memory.peek_eq_none.mp hp) h

theorem not_unused_of_peek {s : State} {a : Word} {v : Byte} (h : s.peek a = some v) : ¬InUnused a := fun hu => by
  rw [State.peek, Memory.peek_eq_none.mpr hu] at h
  cases h

theorem readByte_ok {s : State} {a : Word} {v : Byte} (h : s.peek a = some v) : readByte a s = .ok v s := by
  simp [readByte, h]

theorem readByte_unused {s : State} {a : Word} (h : InUnused a) :
    readByte a s = .error (.illegalMemoryAccess a .read) s := by
  have : s.peek a = none := Memory.peek_eq_none.mpr h
  simp [readByte, this]

theorem writable_iff {a : Word} : writable a = true ↔ CanWrite a := by
  have hn : (route a).isSome = true ↔ ¬InUnused a := by
    rw [← route_eq_none]
    cases route a <;> simp
  rw [writable, Bool.and_eq_true, hn, decide_eq_true_eq, Nat.lt_iff_add_one_le, ← Nat.not_lt, Nat.lt_succ_iff]

theorem writeByte_ok {s : State} {a : Word} (v : Byte) (h : CanWrite a) :
    writeByte a v s = .ok () (s.setMem (s.mem.poke a v)) := by simp [writeByte, writable_iff.mpr h]

theorem writeByte_error {s : State} {a : Word} (v : Byte) (h : ¬CanWrite a) :
    writeByte a v s = .error (.illegalMemoryAccess a .write) s := by
  have : writable a ≠ true := fun hw => h (writable_iff.mp hw)
  simp [writeByte, this]

/-- The state after a byte is stored. -/
def State.poke (s : State) (a : Word) (v : Byte) : State := s.setMem (s.mem.poke a v)

theorem writeByte_poke {s : State} {a : Word} (v : Byte) (h : CanWrite a) : writeByte a v s = .ok () (s.poke a v) :=
  writeByte_ok v h

@[simp] theorem State.poke_get8 (s : State) (a : Word) (v : Byte) (r : Reg) : (s.poke a v).get8 r = s.get8 r := by
  simp [State.poke]
@[simp] theorem State.poke_sp (s : State) (a : Word) (v : Byte) : (s.poke a v).sp = s.sp := rfl
@[simp] theorem State.poke_pc (s : State) (a : Word) (v : Byte) : (s.poke a v).pc = s.pc := rfl
@[simp] theorem State.poke_status (s : State) (a : Word) (v : Byte) : (s.poke a v).status = s.status := rfl
@[simp] theorem State.poke_trace (s : State) (a : Word) (v : Byte) : (s.poke a v).trace = s.trace := rfl
@[simp] theorem State.poke_romSource (s : State) (a : Word) (v : Byte) :
    (s.poke a v).mem.romSource = s.mem.romSource := by simp [State.poke]

theorem State.peek_poke_self {s : State} {a : Word} (v : Byte) (h : ¬InUnused a) : (s.poke a v).peek a = some v :=
  Memory.peek_poke_self h

theorem State.peek_poke_ne {s : State} {a b : Word} (v : Byte) (h : b ≠ a) : (s.poke a v).peek b = s.peek b :=
  Memory.peek_poke_ne v h

@[simp] theorem State.peek_set8 (s : State) (r : Reg) (v : Byte) (a : Word) : (s.set8 r v).peek a = s.peek a := by
  simp [State.peek]
@[simp] theorem State.peek_set16 (s : State) (p : Pair) (v : Word) (a : Word) : (s.set16 p v).peek a = s.peek a := by
  simp [State.peek]
@[simp] theorem State.peek_setRp (s : State) (p : Rp) (v : Word) (a : Word) : (s.setRp p v).peek a = s.peek a := by
  simp [State.peek]
@[simp] theorem State.peek_setPc (s : State) (v : Word) (a : Word) : (s.setPc v).peek a = s.peek a := rfl
@[simp] theorem State.peek_setSp (s : State) (v : Word) (a : Word) : (s.setSp v).peek a = s.peek a := rfl
@[simp] theorem State.peek_setStatus (s : State) (x : Status) (a : Word) : (s.setStatus x).peek a = s.peek a := rfl
@[simp] theorem State.peek_addTrace (s : State) (x : TraceRecord) (a : Word) : (s.addTrace x).peek a = s.peek a := rfl

/-! ## Word access (R62 to R64) -/

theorem ne_add_one (a : Word) : a + 1#16 ≠ a := by
  intro h
  have := congrArg BitVec.toNat h
  rw [BitVec.toNat_add] at this
  have hlt := a.isLt
  simp at this
  omega

theorem readWord_ok {s : State} {a : Word} {lo hi : Byte} (hl : s.peek a = some lo) (hh : s.peek (a + 1#16) = some hi) :
    readWord a s = .ok (wordOf hi lo) s := by simp [readWord, readByte_ok hl, readByte_ok hh]

theorem readWord_low {s : State} {a : Word} (h : InUnused a) :
    readWord a s = .error (.illegalMemoryAccess a .read) s := by simp [readWord, readByte_unused h]

theorem readWord_high {s : State} {a : Word} (hl : ¬InUnused a) (h : InUnused (a + 1#16)) :
    readWord a s = .error (.illegalMemoryAccess (a + 1#16) .read) s := by
  obtain ⟨v, hv⟩ := peek_some_of_not_unused (s := s) hl
  simp [readWord, readByte_ok hv, readByte_unused h]

theorem writeWord_ok {s : State} {a : Word} (v : Word) (hl : CanWrite a) (hh : CanWrite (a + 1#16)) :
    writeWord a v s = .ok () ((s.poke a (loByte v)).poke (a + 1#16) (hiByte v)) := by
  simp [writeWord, writeByte_poke _ hl, writeByte_poke _ hh]

theorem writeWord_low {s : State} {a : Word} (v : Word) (hl : ¬CanWrite a) :
    writeWord a v s = .error (.illegalMemoryAccess a .write) s := by simp [writeWord, writeByte_error _ hl]

theorem writeWord_high {s : State} {a : Word} (v : Word) (hl : CanWrite a) (hh : ¬CanWrite (a + 1#16)) :
    writeWord a v s = .error (.illegalMemoryAccess (a + 1#16) .write) (s.poke a (loByte v)) := by
  simp [writeWord, writeByte_poke _ hl, writeByte_error _ hh]

/-! ## Fetch (40_step_cycle.md R121) and stack (45_stack_control.md R240, R241) -/

theorem fetch8_ok {s : State} {v : Byte} (h : s.peek s.pc = some v) : fetch8 s = .ok v (s.setPc (s.pc + 1#16)) := by
  simp [fetch8, readByte_ok h]

theorem fetch8_unused {s : State} (h : InUnused s.pc) :
    fetch8 s = .error (.illegalMemoryAccess s.pc .read) s := by simp [fetch8, readByte_unused h]

theorem fetch16_ok {s : State} {lo hi : Byte} (hl : s.peek s.pc = some lo) (hh : s.peek (s.pc + 1#16) = some hi) :
    fetch16 s = .ok (wordOf hi lo) (s.setPc (s.pc + 2#16)) := by simp [fetch16, readWord_ok hl hh]

theorem fetch16_low {s : State} (h : InUnused s.pc) :
    fetch16 s = .error (.illegalMemoryAccess s.pc .read) s := by simp [fetch16, readWord_low h]

theorem fetch16_high {s : State} (hl : ¬InUnused s.pc) (h : InUnused (s.pc + 1#16)) :
    fetch16 s = .error (.illegalMemoryAccess (s.pc + 1#16) .read) s := by simp [fetch16, readWord_high hl h]

theorem sub_two_add_one (a : Word) : a - 2#16 + 1#16 = a - 1#16 := by
  rw [show 2#16 = 1#16 + 1#16 from rfl, ← BitVec.sub_sub, BitVec.sub_add_cancel]

theorem pushWord_ok {s : State} (v : Word) (hl : CanWrite (s.sp - 2#16)) (hh : CanWrite (s.sp - 1#16)) :
    pushWord v s = .ok () (((s.setSp (s.sp - 2#16)).poke (s.sp - 2#16) (loByte v)).poke (s.sp - 1#16) (hiByte v)) := by
  rw [← sub_two_add_one] at hh ⊢
  simp [pushWord, writeWord_ok v hl hh]

theorem pushWord_low {s : State} (v : Word) (hl : ¬CanWrite (s.sp - 2#16)) :
    pushWord v s = .error (.illegalMemoryAccess (s.sp - 2#16) .write) (s.setSp (s.sp - 2#16)) := by
  simp [pushWord, writeWord_low v hl]

theorem pushWord_high {s : State} (v : Word) (hl : CanWrite (s.sp - 2#16)) (hh : ¬CanWrite (s.sp - 1#16)) :
    pushWord v s = .error (.illegalMemoryAccess (s.sp - 1#16) .write)
      ((s.setSp (s.sp - 2#16)).poke (s.sp - 2#16) (loByte v)) := by
  rw [← sub_two_add_one] at hh ⊢
  simp [pushWord, writeWord_high v hl hh]

theorem popWord_ok {s : State} {lo hi : Byte} (hl : s.peek s.sp = some lo) (hh : s.peek (s.sp + 1#16) = some hi) :
    popWord s = .ok (wordOf hi lo) (s.setSp (s.sp + 2#16)) := by simp [popWord, readWord_ok hl hh]

theorem popWord_low {s : State} (h : InUnused s.sp) :
    popWord s = .error (.illegalMemoryAccess s.sp .read) s := by simp [popWord, readWord_low h]

theorem popWord_high {s : State} (hl : ¬InUnused s.sp) (h : InUnused (s.sp + 1#16)) :
    popWord s = .error (.illegalMemoryAccess (s.sp + 1#16) .read) s := by simp [popWord, readWord_high hl h]

/-! ## Byte operands -/

theorem readLoc_ok {s : State} {o : Loc} {v : Byte} (h : LocHolds s o v) : readLoc o s = .ok v s := by
  cases o with
  | r g => simpa [readLoc, LocHolds] using h
  | atHL => simp [readLoc, readByte_ok h]

theorem readSrc_ok {s : State} {o : Src} {v : Byte} (h : SrcHolds s o v) : readSrc o s = .ok v s := by
  cases o with
  | r g => simpa [readSrc, SrcHolds] using h
  | atHL => simp [readSrc, readByte_ok h]
  | n n => simpa [readSrc, SrcHolds] using h

/-- The state after the byte operand is written. -/
def State.setLoc (s : State) (o : Loc) (v : Byte) : State :=
  match o with
  | .r g => s.set8 g.reg v
  | .atHL => s.poke s.hl v

theorem writeLoc_ok {s : State} {o : Loc} (v : Byte) (h : LocCanWrite s o) : writeLoc o v s = .ok () (s.setLoc o v) := by
  cases o with
  | r g => rfl
  | atHL => simp [writeLoc, writeByte_poke v h, State.setLoc]

theorem modifyLoc_ok {s : State} {o : Loc} {v : Byte} (op : Byte → Byte → Byte × Byte) (h : LocHolds s o v)
    (hw : LocCanWrite s o) : modifyLoc op o s = .ok () ((s.setLoc o (op v s.f).1).set8 .f (op v s.f).2) := by
  simp [modifyLoc, readLoc_ok h, writeLoc_ok _ hw, State.get8]

theorem modifyLoc_unused {s : State} (op : Byte → Byte → Byte × Byte) (h : InUnused s.hl) :
    modifyLoc op .atHL s = .error (.illegalMemoryAccess s.hl .read) s := by
  simp [modifyLoc, readLoc, readByte_unused h]

theorem modifyLoc_rom {s : State} (op : Byte → Byte → Byte × Byte) (h : InRom s.hl) :
    modifyLoc op .atHL s = .error (.illegalMemoryAccess s.hl .write) s := by
  obtain ⟨v, hv⟩ := peek_some_of_not_unused (s := s) (a := s.hl) (by omega)
  simp [modifyLoc, readLoc, readByte_ok hv, writeLoc, writeByte_error _ (show ¬CanWrite s.hl from fun hc => hc.1 h)]

theorem accumulate_ok {s : State} {o : Src} {v : Byte} (op : Byte → Byte → Byte → Byte × Byte) (h : SrcHolds s o v) :
    accumulate op o s = .ok () ((s.set8 .a (op s.a v s.f).1).set8 .f (op s.a v s.f).2) := by
  simp [accumulate, readSrc_ok h, State.get8]

theorem accumulate_unused {s : State} (op : Byte → Byte → Byte → Byte × Byte) (h : InUnused s.hl) :
    accumulate op .atHL s = .error (.illegalMemoryAccess s.hl .read) s := by
  simp [accumulate, readSrc, readByte_unused h]

theorem compareA_ok {s : State} {o : Src} {v : Byte} (h : SrcHolds s o v) :
    compareA o s = .ok () (s.set8 .f (compare8 s.a v s.f)) := by simp [compareA, readSrc_ok h, State.get8]

theorem compareA_unused {s : State} (h : InUnused s.hl) :
    compareA .atHL s = .error (.illegalMemoryAccess s.hl .read) s := by simp [compareA, readSrc, readByte_unused h]

theorem bitLoc_ok {s : State} {o : Loc} {v : Byte} (n : Fin 8) (h : LocHolds s o v) :
    bitLoc n o s = .ok () (s.set8 .f (bitTest n v s.f)) := by simp [bitLoc, readLoc_ok h, State.get8]

theorem bitLoc_unused {s : State} (n : Fin 8) (h : InUnused s.hl) :
    bitLoc n .atHL s = .error (.illegalMemoryAccess s.hl .read) s := by simp [bitLoc, readLoc, readByte_unused h]

/-! ## Loads and stores (41_loads.md) -/

theorem copyReg_apply (dst src : GReg) (s : State) : copyReg dst src s = .ok () (s.set8 dst.reg (s.get8 src.reg)) := by
  simp [copyReg]

theorem loadImm_apply (dst : GReg) (n : Byte) (s : State) : loadImm dst n s = .ok () (s.set8 dst.reg n) := rfl

theorem loadReg_ok {s : State} {addrOf : State → Word} {v : Byte} (dst : GReg) (h : s.peek (addrOf s) = some v) :
    loadReg dst addrOf s = .ok () (s.set8 dst.reg v) := by simp [loadReg, readByte_ok h]

theorem loadReg_unused {s : State} {addrOf : State → Word} (dst : GReg) (h : InUnused (addrOf s)) :
    loadReg dst addrOf s = .error (.illegalMemoryAccess (addrOf s) .read) s := by simp [loadReg, readByte_unused h]

theorem storeReg_ok {s : State} {addrOf : State → Word} (src : GReg) (h : CanWrite (addrOf s)) :
    storeReg addrOf src s = .ok () (s.poke (addrOf s) (s.get8 src.reg)) := by simp [storeReg, writeByte_poke _ h]

theorem storeReg_error {s : State} {addrOf : State → Word} (src : GReg) (h : ¬CanWrite (addrOf s)) :
    storeReg addrOf src s = .error (.illegalMemoryAccess (addrOf s) .write) s := by simp [storeReg, writeByte_error _ h]

theorem storeImm_ok {s : State} {addrOf : State → Word} (n : Byte) (h : CanWrite (addrOf s)) :
    storeImm addrOf n s = .ok () (s.poke (addrOf s) n) := by simp [storeImm, writeByte_poke _ h]

theorem storeImm_error {s : State} {addrOf : State → Word} (n : Byte) (h : ¬CanWrite (addrOf s)) :
    storeImm addrOf n s = .error (.illegalMemoryAccess (addrOf s) .write) s := by simp [storeImm, writeByte_error _ h]

theorem loadAStep_ok {s : State} {v : Byte} (k : HLStep) (h : s.peek s.hl = some v) :
    loadAStep k s = .ok () ((s.set8 .a v).set16 .hl (stepHL k s.hl)) := by
  simp [loadAStep, readByte_ok h]
  rfl

theorem loadAStep_unused {s : State} (k : HLStep) (h : InUnused s.hl) :
    loadAStep k s = .error (.illegalMemoryAccess s.hl .read) s := by simp [loadAStep, readByte_unused h]

theorem storeAStep_ok {s : State} (k : HLStep) (h : CanWrite s.hl) :
    storeAStep k s = .ok () ((s.poke s.hl s.a).set16 .hl (stepHL k s.hl)) := by
  simp [storeAStep, writeByte_poke _ h]
  rfl

theorem storeAStep_error {s : State} (k : HLStep) (h : ¬CanWrite s.hl) :
    storeAStep k s = .error (.illegalMemoryAccess s.hl .write) s := by simp [storeAStep, writeByte_error _ h]

theorem loadRpImm_apply (p : Rp) (nn : Word) (s : State) : loadRpImm p nn s = .ok () (s.setRp p nn) := rfl

theorem storeSP_apply (nn : Word) (s : State) : storeSP nn s = writeWord nn s.sp s := by simp [storeSP]

theorem loadSPFromHL_apply (s : State) : loadSPFromHL s = .ok () (s.setSp s.hl) := rfl

/-! ## 16-bit arithmetic, stack and control (43_alu16.md, 45_stack_control.md) -/

theorem addHL_apply (p : Rp) (s : State) :
    addHL p s = .ok () ((s.set16 .hl (add16 s.hl (s.getRp p) s.f).1).set8 .f (add16 s.hl (s.getRp p) s.f).2) := by
  simp [addHL, State.get8]

theorem stepRp_apply (op : Word → Word) (p : Rp) (s : State) :
    stepRp op p s = .ok () (s.setRp p (op (s.getRp p))) := rfl

theorem pushPair_apply (p : Pair) (s : State) : pushPair p s = pushWord (s.get16 p) s := by simp [pushPair]

theorem popPair_ok {s t : State} {v : Word} (p : Pair) (h : popWord s = .ok v t) :
    popPair p s = .ok () (t.set16 p v) := by simp [popPair, h]

theorem popPair_error {s t : State} {f : Fault} (p : Pair) (h : popWord s = .error f t) :
    popPair p s = .error f t := by simp [popPair, h]

theorem jumpRelative_apply (c : JumpCond) (e : Byte) (s : State) :
    jumpRelative c e s = .ok () (if JumpCond.holds c s then s.setPc (s.pc + sext16 e) else s) := rfl

theorem callAddr_ok {s t : State} (nn : Word) (h : pushWord s.pc s = .ok () t) : callAddr nn s = .ok () (t.setPc nn) := by
  simp [callAddr, h]

theorem callAddr_error {s t : State} {f : Fault} (nn : Word) (h : pushWord s.pc s = .error f t) :
    callAddr nn s = .error f t := by simp [callAddr, h]

theorem returnFromCall_ok {s t : State} {v : Word} (h : popWord s = .ok v t) :
    returnFromCall s = .ok () (t.setPc v) := by simp [returnFromCall, h]

theorem returnFromCall_error {s t : State} {f : Fault} (h : popWord s = .error f t) :
    returnFromCall s = .error f t := by simp [returnFromCall, h]

/-! ## Frames -/

theorem SameMemoryOff.refl (ws : List Word) (s : State) : SameMemoryOff ws s s := fun _ _ => rfl

theorem Frame.refl (ps : List Part) (ws : List Word) (s : State) : Frame ps ws s s :=
  ⟨fun p _ => by cases p <;> rfl, rfl, rfl, SameMemoryOff.refl ws s⟩

theorem Frame.trans {ps : List Part} {ws : List Word} {s t u : State} (h : Frame ps ws s t) (k : Frame ps ws t u) :
    Frame ps ws s u := by
  refine ⟨fun p hp => ?_, k.2.1.trans h.2.1, k.2.2.1.trans h.2.2.1, fun a ha => (k.2.2.2 a ha).trans (h.2.2.2 a ha)⟩
  have h1 := h.1 p hp
  have h2 := k.1 p hp
  cases p <;> exact Eq.trans h2 h1

theorem Frame.mono {ps qs : List Part} {ws vs : List Word} {s t : State} (hp : ∀ p ∈ ps, p ∈ qs) (hw : ∀ w ∈ ws, w ∈ vs)
    (h : Frame ps ws s t) : Frame qs vs s t :=
  ⟨fun p hq => h.1 p fun hm => hq (hp p hm), h.2.1, h.2.2.1, fun a ha => h.2.2.2 a fun hm => ha (hw a hm)⟩

theorem Frame.set8 {ps : List Part} (ws : List Word) (s : State) {r : Reg} (v : Byte) (h : .reg r ∈ ps) :
    Frame ps ws s (s.set8 r v) := by
  refine ⟨fun p hp => ?_, by simp, by simp, fun a _ => by simp⟩
  cases p with
  | reg q =>
    refine State.get8_set8_ne s v fun e => hp ?_
    rw [e]
    exact h
  | sp => exact State.set8_sp s r v
  | pc => exact State.set8_pc s r v

theorem Frame.set16 {ps : List Part} (ws : List Word) (s : State) {p : Pair} (v : Word) (hh : .reg (pairHi p) ∈ ps)
    (hl : .reg (pairLo p) ∈ ps) : Frame ps ws s (s.set16 p v) :=
  (Frame.set8 ws s (hiByte v) hh).trans (Frame.set8 ws _ (loByte v) hl)

theorem Frame.setSp {ps : List Part} (ws : List Word) (s : State) (v : Word) (h : .sp ∈ ps) : Frame ps ws s (s.setSp v) := by
  refine ⟨fun p hp => ?_, rfl, rfl, fun _ _ => rfl⟩
  cases p with
  | reg q => exact State.setSp_get8 s v q
  | sp => exact absurd h hp
  | pc => rfl

theorem Frame.setPc {ps : List Part} (ws : List Word) (s : State) (v : Word) (h : .pc ∈ ps) : Frame ps ws s (s.setPc v) := by
  refine ⟨fun p hp => ?_, rfl, rfl, fun _ _ => rfl⟩
  cases p with
  | reg q => exact State.setPc_get8 s v q
  | sp => rfl
  | pc => exact absurd h hp

theorem Frame.setStatus (ps : List Part) (ws : List Word) (s : State) (x : Status) : Frame ps ws s (s.setStatus x) :=
  ⟨fun p _ => by cases p <;> rfl, rfl, rfl, fun _ _ => rfl⟩

theorem Frame.poke (ps : List Part) {ws : List Word} (s : State) {a : Word} (v : Byte) (h : a ∈ ws) :
    Frame ps ws s (s.poke a v) := by
  refine ⟨fun p _ => ?_, rfl, by simp, fun b hb => State.peek_poke_ne v fun e => hb (e ▸ h)⟩
  cases p with
  | reg q => exact State.poke_get8 s a v q
  | sp => rfl
  | pc => rfl

theorem Frame.setRp {ps : List Part} (ws : List Word) (s : State) (p : Rp) (v : Word) (h : ∀ q ∈ rpParts p, q ∈ ps) :
    Frame ps ws s (s.setRp p v) := by
  cases p <;> first
    | exact Frame.set16 ws s v (h _ (by simp [rpParts, pairHi])) (h _ (by simp [rpParts, pairLo]))
    | exact Frame.setSp ws s v (h _ (by simp [rpParts]))

theorem Frame.setLoc (s : State) (o : Loc) (v : Byte) :
    Frame (locParts o) (locStores s o) s (s.setLoc o v) := by
  cases o with
  | r g => exact Frame.set8 _ s v (by simp [locParts])
  | atHL => exact Frame.poke _ s v (by simp [locStores])

theorem State.setLoc_status (s : State) (o : Loc) (v : Byte) : (s.setLoc o v).status = s.status := by
  cases o <;> simp [State.setLoc]

/-- The operand written, then `F`: the operand holds what was written. -/
theorem LocHolds.after_write {s : State} {o : Loc} {v : Byte} (r f : Byte) (h : LocHolds s o v) :
    LocHolds ((s.setLoc o r).set8 .f f) o r := by
  cases o with
  | r g => cases g <;> rfl
  | atHL =>
    show ((s.poke s.hl r).set8 .f f).peek _ = _
    rw [State.peek_set8]
    exact State.peek_poke_self _ (not_unused_of_peek h)

theorem Frame.modifyLoc (s : State) (o : Loc) (v f : Byte) :
    Frame (.reg .f :: locParts o) (locStores s o) s ((s.setLoc o v).set8 .f f) :=
  ((Frame.setLoc s o v).mono (by simp_all) (by simp)).trans (Frame.set8 _ _ _ (by simp))

/-- The flags after a flag byte made by `flags` is written (10_state.md R22, R23). -/
theorem FlagsAre.set8_flags (z n h c : Bool) (s : State) : FlagsAre (s.set8 .f (flags z n h c)) z n h c := by
  have key : ∀ z n h c : Bool, (flags z n h c &&& 0xF0#8).getLsbD 7 = z ∧ (flags z n h c &&& 0xF0#8).getLsbD 6 = n ∧
      (flags z n h c &&& 0xF0#8).getLsbD 5 = h ∧ (flags z n h c &&& 0xF0#8).getLsbD 4 = c ∧
      flags z n h c &&& 0xF0#8 &&& 0x0F#8 = 0x00#8 := by decide
  exact key z n h c

/-! ## What a part of a step keeps -/

/-- The state a part of a step ends in, by a value or by a fault. -/
def after {α : Type} (m : Exec α) (s : State) : State :=
  match m s with
  | .ok _ t => t
  | .error _ t => t

/-- From every state, the state the part ends in is related to it. -/
def Keeps (R : State → State → Prop) {α : Type} (m : Exec α) : Prop := ∀ s, R s (after m s)

theorem Keeps.bind {R : State → State → Prop} (ht : ∀ {s t u}, R s t → R t u → R s u) {α β : Type} {m : Exec α}
    {k : α → Exec β} (hm : Keeps R m) (hk : ∀ a, Keeps R (k a)) : Keeps R (m >>= k) := fun s => by
  have h1 := hm s
  simp only [after, bind_apply] at h1 ⊢
  cases h : m s with
  | error f t => simpa [h] using h1
  | ok a t =>
    simp only [h] at h1 ⊢
    exact ht h1 (hk a t)

theorem Keeps.of_complete {R : State → State → Prop} {m : Exec Unit} {s t : State} (hm : Keeps R m)
    (hs : ∀ {s t} x, R s t → R s (t.setStatus x)) (h : complete m s = .next t) : R s t := by
  have h1 := hm s
  simp only [complete, after] at h h1
  cases hms : m s with
  | ok a u =>
    simp only [hms, Host.Outcome.next.injEq] at h h1
    exact h ▸ h1
  | error f u =>
    simp only [hms, takeFault, Host.Outcome.next.injEq] at h h1
    exact h ▸ hs _ h1

/-! ## The meaning of each form is its shared operation -/

theorem exec_ldRR (dst g : GReg) (s : State) : exec (Instr.ldRR dst g) s = complete (copyReg dst g) s := by
  cases dst <;> cases g <;> rfl
theorem exec_ldRAtHL (g : GReg) (s : State) : exec (Instr.ldRAtHL g) s = complete (loadReg g State.hl) s := by
  cases g <;> rfl
theorem exec_ldAtHLR (g : GReg) (s : State) : exec (Instr.ldAtHLR g) s = complete (storeReg State.hl g) s := by
  cases g <;> rfl
theorem exec_ldRN (g : GReg) (n : Byte) (s : State) : exec (Instr.ldRN g n) s = complete (loadImm g n) s := by
  cases g <;> rfl
theorem exec_ldAMem (m : AMem) (s : State) : exec (Instr.ldAMem m) s = complete (loadReg .a (AMem.addr m)) s := by
  cases m <;> rfl
theorem exec_ldMemA (m : AMem) (s : State) : exec (Instr.ldMemA m) s = complete (storeReg (AMem.addr m) .a) s := by
  cases m <;> rfl
theorem exec_ldAStep (k : HLStep) (s : State) : exec (Instr.ldAStep k) s = complete (loadAStep k) s := by cases k <;> rfl
theorem exec_ldStepA (k : HLStep) (s : State) : exec (Instr.ldStepA k) s = complete (storeAStep k) s := by cases k <;> rfl
theorem exec_ldRpNN (p : Rp) (nn : Word) (s : State) : exec (Instr.ldRpNN p nn) s = complete (loadRpImm p nn) s := by
  cases p <;> rfl
theorem exec_incLoc (o : Loc) (s : State) : exec (Instr.incLoc o) s = complete (modifyLoc increment8 o) s := by
  rcases o with g | _
  · cases g <;> rfl
  · rfl
theorem exec_decLoc (o : Loc) (s : State) : exec (Instr.decLoc o) s = complete (modifyLoc decrement8 o) s := by
  rcases o with g | _
  · cases g <;> rfl
  · rfl
theorem exec_addA (o : Src) (s : State) : exec (Instr.addA o) s = complete (accumulate add8 o) s := by
  rcases o with g | _ | n
  · cases g <;> rfl
  · rfl
  · rfl
theorem exec_subA (o : Src) (s : State) : exec (Instr.subA o) s = complete (accumulate sub8 o) s := by
  rcases o with g | _ | n
  · cases g <;> rfl
  · rfl
  · rfl
theorem exec_sbcA (o : Src) (s : State) : exec (Instr.sbcA o) s = complete (accumulate sbc8 o) s := by
  rcases o with g | _ | n
  · cases g <;> rfl
  · rfl
  · rfl
theorem exec_xorA (o : Src) (s : State) : exec (Instr.xorA o) s = complete (accumulate xor8 o) s := by
  rcases o with g | _ | n
  · cases g <;> rfl
  · rfl
  · rfl
theorem exec_cpA (o : Src) (s : State) : exec (Instr.cpA o) s = complete (compareA o) s := by
  rcases o with g | _ | n
  · cases g <;> rfl
  · rfl
  · rfl
theorem exec_addHL (p : Rp) (s : State) : exec (Instr.addHL p) s = complete (addHL p) s := by cases p <;> rfl
theorem exec_incRp (p : Rp) (s : State) : exec (Instr.incRp p) s = complete (stepRp increment16 p) s := by cases p <;> rfl
theorem exec_decRp (p : Rp) (s : State) : exec (Instr.decRp p) s = complete (stepRp decrement16 p) s := by cases p <;> rfl
theorem exec_rotA (k : Rot) (s : State) : exec (Instr.rotA k) s = complete (modifyLoc (rotateHelper k) (.r .a)) s := by
  cases k <;> rfl
theorem exec_rotLoc (k : Rot) (o : Loc) (s : State) :
    exec (Instr.rotLoc k o) s = complete (modifyLoc (rotateHelper k) o) s := by
  rcases o with g | _
  · cases k <;> cases g <;> rfl
  · cases k <;> rfl
theorem exec_bitLoc (b : Fin 8) (o : Loc) (s : State) : exec (Instr.bitLoc b o) s = complete (bitLoc b o) s := by
  rcases o with g | _
  · fin_cases b <;> cases g <;> rfl
  · fin_cases b <;> rfl
theorem exec_push (p : Pair) (s : State) : exec (Instr.push p) s = complete (pushPair p) s := by cases p <;> rfl
theorem exec_pop (p : Pair) (s : State) : exec (Instr.pop p) s = complete (popPair p) s := by cases p <;> rfl
theorem exec_jr (c : JumpCond) (e : Byte) (s : State) : exec (Instr.jr c e) s = complete (jumpRelative c e) s := by
  cases c <;> rfl
theorem exec_ld_atnn_SP (nn : Word) (s : State) : exec (.ld_atnn_SP nn) s = complete (storeSP nn) s := rfl
theorem exec_ld_atHL_n (n : Byte) (s : State) : exec (.ld_atHL_n n) s = complete (storeImm State.hl n) s := rfl
theorem exec_ld_SP_HL (s : State) : exec .ld_SP_HL s = complete loadSPFromHL s := rfl
theorem exec_nop (s : State) : exec .nop s = complete noOperation s := rfl
theorem exec_ret (s : State) : exec .ret s = complete returnFromCall s := rfl
theorem exec_call_nn (nn : Word) (s : State) : exec (.call_nn nn) s = complete (callAddr nn) s := rfl
theorem exec_escape (s : State) : exec .escape s = complete runEscaped s := rfl

end Sys2Proof.Machine
end

