-- ==== Sys2Proof/Laws/Keeps.lean ====
section
/-! SUPPORT. What every instruction and every step keeps: a relation that each named update of the state is in holds between
the states before and after any step. -/

namespace Sys2Proof.Machine

/-- A relation between the state before and the state after that every named update is in, so that every instruction and
every step is. `poke` is asked of the addresses a program can write only. -/
structure StepRel (R : State → State → Prop) : Prop where
  refl : ∀ s, R s s
  trans : ∀ {s t u}, R s t → R t u → R s u
  status : ∀ {s t} x, R s t → R s (t.setStatus x)
  poke : ∀ s a v, CanWrite a → R s (s.poke a v)
  set8 : ∀ s r v, R s (s.set8 r v)
  setSp : ∀ s v, R s (s.setSp v)
  setPc : ∀ s v, R s (s.setPc v)
  addTrace : ∀ s v, R s (s.addTrace v)

variable {R : State → State → Prop} (h : StepRel R)
include h

theorem StepRel.pure {α} (a : α) : Keeps R (pure a : Exec α) := fun s => h.refl s

theorem StepRel.view {α} (a : State → α) : Keeps R (view a : Exec α) := fun s => h.refl s

theorem StepRel.readReg (r : Reg) : Keeps R (readReg r) := fun s => h.refl s

theorem StepRel.raise {α} (a : Fault) : Keeps R (raise a : Exec α) := fun s => h.refl s

omit h in
theorem StepRel.keeps_update (g : State → State) (hg : ∀ s, R s (g s)) : Keeps R (update g) := fun s => hg s

theorem StepRel.readByte (a : Word) : Keeps R (readByte a) := fun s => by
  by_cases hu : InUnused a
  · rw [after, readByte_unused hu]; exact h.refl s
  · obtain ⟨v, hv⟩ := peek_some_of_not_unused (s := s) hu
    rw [after, readByte_ok hv]; exact h.refl s

theorem StepRel.writeByte (a : Word) (v : Byte) : Keeps R (writeByte a v) := fun s => by
  by_cases hu : CanWrite a
  · rw [after, writeByte_poke v hu]; exact h.poke s a v hu
  · rw [after, writeByte_error v hu]; exact h.refl s

theorem StepRel.bind {α β : Type} {m : Exec α} {k : α → Exec β} (hm : Keeps R m) (hk : ∀ a, Keeps R (k a)) :
    Keeps R (m >>= k) := Keeps.bind (R := R) (fun a b => h.trans a b) hm hk

omit h in
theorem StepRel.keeps_map {α β : Type} {m : Exec α} (g : α → β) (hm : Keeps R m) : Keeps R (g <$> m) := fun s => by
  have := hm s
  simp only [after, map_apply] at *
  cases hx : m s <;> simpa [hx] using this

theorem StepRel.readWord (a : Word) : Keeps R (readWord a) :=
  h.bind (h.readByte _) fun _ => h.bind (h.readByte _) fun _ => h.pure _

theorem StepRel.writeWord (a v : Word) : Keeps R (writeWord a v) := h.bind (h.writeByte _ _) fun _ => h.writeByte _ _

theorem StepRel.pushWord (v : Word) : Keeps R (pushWord v) :=
  h.bind (StepRel.keeps_update _ fun _ => h.setSp _ _) fun _ => h.bind (h.view _) fun _ => h.writeWord _ _

theorem StepRel.popWord : Keeps R popWord :=
  h.bind (h.view _) fun _ => h.bind (h.readWord _) fun _ => h.bind (StepRel.keeps_update _ fun _ =>
    h.setSp _ _) fun _ => h.pure _

theorem StepRel.fetch8 : Keeps R fetch8 :=
  h.bind (h.view _) fun _ => h.bind (h.readByte _) fun _ => h.bind (StepRel.keeps_update _ fun _ =>
    h.setPc _ _) fun _ => h.pure _

theorem StepRel.fetch16 : Keeps R fetch16 :=
  h.bind (h.view _) fun _ => h.bind (h.readWord _) fun _ => h.bind (StepRel.keeps_update _ fun _ =>
    h.setPc _ _) fun _ => h.pure _

theorem StepRel.set16 (s : State) (p : Pair) (v : Word) : R s (s.set16 p v) := h.trans (h.set8 _ _ _) (h.set8 _ _ _)

theorem StepRel.setRp (s : State) (p : Rp) (v : Word) : R s (s.setRp p v) := by
  cases p <;> first | exact h.set16 _ _ _ | exact h.setSp _ _

theorem StepRel.writeReg (r : Reg) (v : Byte) : Keeps R (writeReg r v) := StepRel.keeps_update _ fun _ => h.set8 _ _ _

theorem StepRel.readLoc (o : Loc) : Keeps R (readLoc o) := by
  cases o with
  | r g => exact h.readReg _
  | atHL => exact h.bind (h.view _) fun _ => h.readByte _

theorem StepRel.readSrc (o : Src) : Keeps R (readSrc o) := by
  cases o with
  | r g => exact h.readReg _
  | atHL => exact h.bind (h.view _) fun _ => h.readByte _
  | n n => exact h.pure _

theorem StepRel.writeLoc (o : Loc) (v : Byte) : Keeps R (writeLoc o v) := by
  cases o with
  | r g => exact h.writeReg _ _
  | atHL => exact h.bind (h.view _) fun _ => h.writeByte _ _

theorem StepRel.modifyLoc (op) (o : Loc) : Keeps R (modifyLoc op o) :=
  h.bind (h.readLoc _) fun _ => h.bind (h.readReg _) fun _ => h.bind (h.writeLoc _ _) fun _ => h.writeReg _ _

theorem StepRel.bitLoc (b) (o : Loc) : Keeps R (bitLoc b o) :=
  h.bind (h.readLoc _) fun _ => h.bind (h.readReg _) fun _ => h.writeReg _ _

theorem StepRel.accumulate (op) (o : Src) : Keeps R (accumulate op o) :=
  h.bind (h.readSrc _) fun _ => h.bind (h.readReg _) fun _ => h.bind (h.readReg _) fun _ =>
    h.bind (h.writeReg _ _) fun _ => h.writeReg _ _

theorem StepRel.compareA (o : Src) : Keeps R (compareA o) :=
  h.bind (h.readSrc _) fun _ => h.bind (h.readReg _) fun _ => h.bind (h.readReg _) fun _ => h.writeReg _ _

theorem StepRel.pop (p) : Keeps R (popPair p) := h.bind h.popWord fun _ => StepRel.keeps_update _ fun _ => h.set16 _ _ _

theorem StepRel.of_extendedBody (b : Byte) (m) (hb : extendedBody b = some m) : Keeps R m := by
  simp only [extendedBody] at hb
  split at hb
  · split at hb
    · cases hb; exact h.modifyLoc _ _
    · cases hb
  · split at hb
    · cases hb; exact h.bitLoc _ _
    · cases hb

/-- An instruction, whether it completes or faults. -/
theorem StepRel.of_exec (i : Instr) {s t : State} (ht : exec i s = .next t) : R s t := by
  revert s t
  revert i
  apply Instr.form_cases <;> intros <;> rename_i ht
  · rw [exec_ldRR] at ht
    refine Keeps.of_complete ?_ h.status ht
    exact h.bind (h.readReg _) fun _ => h.writeReg _ _
  · rw [exec_ldRAtHL] at ht
    refine Keeps.of_complete ?_ h.status ht
    exact h.bind (h.view _) fun _ => h.bind (h.readByte _) fun _ => h.writeReg _ _
  · rw [exec_ldAtHLR] at ht
    refine Keeps.of_complete ?_ h.status ht
    exact h.bind (h.view _) fun _ => h.bind (h.readReg _) fun _ => h.writeByte _ _
  · rw [exec_ldRN] at ht
    refine Keeps.of_complete ?_ h.status ht
    exact h.writeReg _ _
  · rw [exec_ldAMem] at ht
    refine Keeps.of_complete ?_ h.status ht
    exact h.bind (h.view _) fun _ => h.bind (h.readByte _) fun _ => h.writeReg _ _
  · rw [exec_ldMemA] at ht
    refine Keeps.of_complete ?_ h.status ht
    exact h.bind (h.view _) fun _ => h.bind (h.readReg _) fun _ => h.writeByte _ _
  · rw [exec_ldAStep] at ht
    refine Keeps.of_complete ?_ h.status ht
    exact h.bind (h.view _) fun _ => h.bind (h.readByte _) fun _ => h.bind (h.writeReg _ _) fun _ =>
      StepRel.keeps_update _ fun _ => h.set16 _ _ _
  · rw [exec_ldStepA] at ht
    refine Keeps.of_complete ?_ h.status ht
    exact h.bind (h.view _) fun _ => h.bind (h.readReg _) fun _ => h.bind (h.writeByte _ _) fun _ =>
      StepRel.keeps_update _ fun _ => h.set16 _ _ _
  · rw [exec_ldRpNN] at ht
    refine Keeps.of_complete ?_ h.status ht
    exact StepRel.keeps_update _ fun _ => h.setRp _ _ _
  · rw [exec_incLoc] at ht
    refine Keeps.of_complete ?_ h.status ht
    exact h.modifyLoc _ _
  · rw [exec_decLoc] at ht
    refine Keeps.of_complete ?_ h.status ht
    exact h.modifyLoc _ _
  · rw [exec_addA] at ht
    refine Keeps.of_complete ?_ h.status ht
    exact h.accumulate _ _
  · rw [exec_subA] at ht
    refine Keeps.of_complete ?_ h.status ht
    exact h.accumulate _ _
  · rw [exec_sbcA] at ht
    refine Keeps.of_complete ?_ h.status ht
    exact h.accumulate _ _
  · rw [exec_xorA] at ht
    refine Keeps.of_complete ?_ h.status ht
    exact h.accumulate _ _
  · rw [exec_cpA] at ht
    refine Keeps.of_complete ?_ h.status ht
    exact h.compareA _
  · rw [exec_addHL] at ht
    refine Keeps.of_complete ?_ h.status ht
    exact h.bind (h.view _) fun _ => h.bind (h.view _) fun _ => h.bind (h.readReg _) fun _ =>
      h.bind (StepRel.keeps_update _ fun _ => h.set16 _ _ _) fun _ => h.writeReg _ _
  · rw [exec_incRp] at ht
    refine Keeps.of_complete ?_ h.status ht
    exact StepRel.keeps_update _ fun _ => h.setRp _ _ _
  · rw [exec_decRp] at ht
    refine Keeps.of_complete ?_ h.status ht
    exact StepRel.keeps_update _ fun _ => h.setRp _ _ _
  · rw [exec_rotA] at ht
    refine Keeps.of_complete ?_ h.status ht
    exact h.modifyLoc _ _
  · rw [exec_rotLoc] at ht
    refine Keeps.of_complete ?_ h.status ht
    exact h.modifyLoc _ _
  · rw [exec_bitLoc] at ht
    refine Keeps.of_complete ?_ h.status ht
    exact h.bitLoc _ _
  · rw [exec_push] at ht
    refine Keeps.of_complete ?_ h.status ht
    exact h.bind (h.view _) fun _ => h.pushWord _
  · rw [exec_pop] at ht
    refine Keeps.of_complete ?_ h.status ht
    exact h.pop _
  · rw [exec_jr] at ht
    refine Keeps.of_complete ?_ h.status ht
    refine StepRel.keeps_update _ fun s => ?_
    split
    · exact h.setPc _ _
    · exact h.refl _
  · rw [exec_ld_atnn_SP] at ht
    refine Keeps.of_complete ?_ h.status ht
    exact h.bind (h.view _) fun _ => h.writeWord _ _
  · rw [exec_ld_atHL_n] at ht
    refine Keeps.of_complete ?_ h.status ht
    exact h.bind (h.view _) fun _ => h.writeByte _ _
  · rw [exec_ld_SP_HL] at ht
    refine Keeps.of_complete ?_ h.status ht
    exact StepRel.keeps_update _ fun _ => h.setSp _ _
  · rw [exec_nop] at ht
    refine Keeps.of_complete ?_ h.status ht
    exact h.pure _
  · rw [exec_ret] at ht
    refine Keeps.of_complete ?_ h.status ht
    exact h.bind h.popWord fun _ => StepRel.keeps_update _ fun _ => h.setPc _ _
  · rw [exec_call_nn] at ht
    refine Keeps.of_complete ?_ h.status ht
    exact h.bind (h.view _) fun _ => h.bind (h.pushWord _) fun _ => StepRel.keeps_update _ fun _ => h.setPc _ _
  · rw [exec_escape] at ht
    refine Keeps.of_complete ?_ h.status ht
    refine h.bind (h.view _) fun _ => h.bind h.fetch8 fun b => ?_
    split
    · exact h.bind (StepRel.keeps_update _ fun _ => h.addTrace _ _) fun _ => h.of_extendedBody b _ (by assumption)
    · exact h.raise _

theorem StepRel.of_fetchInstr : Keeps R fetchInstr := by
  refine h.bind (h.bind (h.view _) fun _ =>
      h.bind h.fetch8 fun b => ?_) fun r => h.bind (StepRel.keeps_update _ fun _ => h.addTrace _ _) fun _ => ?_
  · split
    · exact h.raise _
    · exact h.pure _
    · refine h.bind h.fetch8 fun b => ?_
      split
      · exact h.raise _
      · exact h.pure _
  · cases r.2 with
    | op i => exact h.pure _
    | opN mk => exact StepRel.keeps_map _ h.fetch8
    | opE mk => exact StepRel.keeps_map _ h.fetch8
    | opNN mk => exact StepRel.keeps_map _ h.fetch16

/-- A step, whether it completes or faults. -/
theorem StepRel.of_step {s t : State} (ht : step s = .next t) : R s t := by
  simp only [step] at ht
  split at ht
  · have := h.of_fetchInstr s
    simp only [stepRunning, after] at ht this
    cases hf : fetchInstr s with
    | ok i u => simp only [hf] at ht this; exact h.trans this (h.of_exec i ht)
    | error f u => simp only [hf, takeFault, Host.Outcome.next.injEq] at ht this; subst ht; exact h.status _ this
  · cases ht; exact h.refl _

omit h

end Sys2Proof.Machine
end

