-- ==== Sys2Proof/Tests/Slice0.lean ====
section
/-! SUPPORT. The model's own tests: the ill-formed term refused, every opcode row's word decoded, the spec's own vectors
(95_test_vectors.md, named by its headings), and a witness for the hypotheses of every statement that has some. -/

namespace Sys2Proof.Tests

open Sys2Proof.Machine

/-! ## Helpers -/

/-- The machine with bytes given at an address and `pc` there. -/
def placed (pc : Word) (bytes : List Byte) : State := (State.reset.setPc pc).preload pc bytes

/-- Bytes given at an address of another state. -/
def given (addr : Word) (bytes : List Byte) (s : State) : State := s.preload addr bytes

/-- The state a step leaves. -/
def stepped (s : State) : State :=
  match step s with
  | .next t => t
  | .fault _ => s
  | .refused _ => s

/-- The state an instruction leaves. -/
def executed (i : Instr) (s : State) : State :=
  match exec i s with
  | .next t => t
  | .fault _ => s
  | .refused _ => s

/-- Whether an outcome is a next state with a property. -/
def nextWith (o : StepOutcome) (p : State → Bool) : Bool :=
  match o with
  | .next t => p t
  | .fault _ => false
  | .refused _ => false

theorem exists_next {o : StepOutcome} {p : State → Bool} (h : nextWith o p = true) : ∃ t, o = .next t ∧ p t = true := by
  cases o with
  | next t => exact ⟨t, rfl, h⟩
  | fault f => cases h
  | refused r => cases h

/-- The flags as the vectors write them. -/
def znhc (s : State) : Bool × Bool × Bool × Bool := (s.flagZ, s.flagN, s.flagH, s.flagC)

/-- A memory fault as a status. -/
def memFault (a : Word) (k : Access) : Status := .faulted (.illegalMemoryAccess a k)

/-- An opcode fault as a status. -/
def opFault (b : Byte) (x : Bool) : Status := .faulted (.unimplementedOpcode b x)

/-! ## Well-formedness -/

/-- The one check: the escape is no instruction (30_encoding.md R93). -/
theorem test_wellFormed_refuses_escape : Instr.wellFormed .escape = false := by decide

theorem test_wellFormed_accepts_nop : Instr.wellFormed .nop = true := by decide

/-! ## Decoding: the word of every row of the opcode table, its bits written out (30_encoding.md R91, R95, R96), with the
operand bytes `5A`, or `34` and then `12` -/

/-- Each list of bytes decodes to its instruction and leaves nothing. -/
def decodesTo (l : List (List Byte × Instr)) : Bool := l.all fun x => decide (decode x.1 = .instr x.2 [])

theorem test_decode_primary_0 : decodesTo [
    ([0b00000000#8], .nop), ([0b00000001#8, 0x34#8, 0x12#8], .ld_BC_nn 0x1234#16), ([0b00000010#8], .ld_atBC_A),
    ([0b00000011#8], .inc_BC), ([0b00000100#8], .inc_B), ([0b00000101#8], .dec_B),
    ([0b00000110#8, 0x5A#8], .ld_B_n 0x5A#8), ([0b00000111#8], .rlca),
    ([0b00001000#8, 0x34#8, 0x12#8], .ld_atnn_SP 0x1234#16), ([0b00001001#8], .add_HL_BC), ([0b00001010#8], .ld_A_atBC),
    ([0b00001011#8], .dec_BC), ([0b00001100#8], .inc_C), ([0b00001101#8], .dec_C),
    ([0b00001110#8, 0x5A#8], .ld_C_n 0x5A#8), ([0b00001111#8], .rrca)] = true := by decide

theorem test_decode_primary_1 : decodesTo [
    ([0b00010001#8, 0x34#8, 0x12#8], .ld_DE_nn 0x1234#16), ([0b00010010#8], .ld_atDE_A), ([0b00010011#8], .inc_DE),
    ([0b00010100#8], .inc_D), ([0b00010101#8], .dec_D), ([0b00010110#8, 0x5A#8], .ld_D_n 0x5A#8), ([0b00010111#8], .rla),
    ([0b00011000#8, 0x5A#8], .jr_e 0x5A#8), ([0b00011001#8], .add_HL_DE), ([0b00011010#8], .ld_A_atDE),
    ([0b00011011#8], .dec_DE), ([0b00011100#8], .inc_E), ([0b00011101#8], .dec_E),
    ([0b00011110#8, 0x5A#8], .ld_E_n 0x5A#8), ([0b00011111#8], .rra)] = true := by decide

theorem test_decode_primary_2 : decodesTo [
    ([0b00100000#8, 0x5A#8], .jr_NZ_e 0x5A#8), ([0b00100001#8, 0x34#8, 0x12#8], .ld_HL_nn 0x1234#16),
    ([0b00100010#8], .ld_atHLplus_A), ([0b00100011#8], .inc_HL), ([0b00100100#8], .inc_H), ([0b00100101#8], .dec_H),
    ([0b00100110#8, 0x5A#8], .ld_H_n 0x5A#8), ([0b00101000#8, 0x5A#8], .jr_Z_e 0x5A#8), ([0b00101001#8], .add_HL_HL),
    ([0b00101010#8], .ld_A_atHLplus), ([0b00101011#8], .dec_HL), ([0b00101100#8], .inc_L), ([0b00101101#8], .dec_L),
    ([0b00101110#8, 0x5A#8], .ld_L_n 0x5A#8)] = true := by decide

theorem test_decode_primary_3 : decodesTo [
    ([0b00110001#8, 0x34#8, 0x12#8], .ld_SP_nn 0x1234#16), ([0b00110010#8], .ld_atHLminus_A), ([0b00110011#8], .inc_SP),
    ([0b00110100#8], .inc_atHL), ([0b00110101#8], .dec_atHL), ([0b00110110#8, 0x5A#8], .ld_atHL_n 0x5A#8),
    ([0b00111001#8], .add_HL_SP), ([0b00111010#8], .ld_A_atHLminus), ([0b00111011#8], .dec_SP), ([0b00111100#8], .inc_A),
    ([0b00111101#8], .dec_A), ([0b00111110#8, 0x5A#8], .ld_A_n 0x5A#8)] = true := by decide

theorem test_decode_primary_4 : decodesTo [
    ([0b01000000#8], .ld_B_B), ([0b01000001#8], .ld_B_C), ([0b01000010#8], .ld_B_D), ([0b01000011#8], .ld_B_E),
    ([0b01000100#8], .ld_B_H), ([0b01000101#8], .ld_B_L), ([0b01000110#8], .ld_B_atHL), ([0b01000111#8], .ld_B_A),
    ([0b01001000#8], .ld_C_B), ([0b01001001#8], .ld_C_C), ([0b01001010#8], .ld_C_D), ([0b01001011#8], .ld_C_E),
    ([0b01001100#8], .ld_C_H), ([0b01001101#8], .ld_C_L), ([0b01001110#8], .ld_C_atHL),
    ([0b01001111#8], .ld_C_A)] = true := by decide

theorem test_decode_primary_5 : decodesTo [
    ([0b01010000#8], .ld_D_B), ([0b01010001#8], .ld_D_C), ([0b01010010#8], .ld_D_D), ([0b01010011#8], .ld_D_E),
    ([0b01010100#8], .ld_D_H), ([0b01010101#8], .ld_D_L), ([0b01010110#8], .ld_D_atHL), ([0b01010111#8], .ld_D_A),
    ([0b01011000#8], .ld_E_B), ([0b01011001#8], .ld_E_C), ([0b01011010#8], .ld_E_D), ([0b01011011#8], .ld_E_E),
    ([0b01011100#8], .ld_E_H), ([0b01011101#8], .ld_E_L), ([0b01011110#8], .ld_E_atHL),
    ([0b01011111#8], .ld_E_A)] = true := by decide

theorem test_decode_primary_6 : decodesTo [
    ([0b01100000#8], .ld_H_B), ([0b01100001#8], .ld_H_C), ([0b01100010#8], .ld_H_D), ([0b01100011#8], .ld_H_E),
    ([0b01100100#8], .ld_H_H), ([0b01100101#8], .ld_H_L), ([0b01100110#8], .ld_H_atHL), ([0b01100111#8], .ld_H_A),
    ([0b01101000#8], .ld_L_B), ([0b01101001#8], .ld_L_C), ([0b01101010#8], .ld_L_D), ([0b01101011#8], .ld_L_E),
    ([0b01101100#8], .ld_L_H), ([0b01101101#8], .ld_L_L), ([0b01101110#8], .ld_L_atHL),
    ([0b01101111#8], .ld_L_A)] = true := by decide

theorem test_decode_primary_7 : decodesTo [
    ([0b01110000#8], .ld_atHL_B), ([0b01110001#8], .ld_atHL_C), ([0b01110010#8], .ld_atHL_D), ([0b01110011#8], .ld_atHL_E),
    ([0b01110100#8], .ld_atHL_H), ([0b01110101#8], .ld_atHL_L), ([0b01110111#8], .ld_atHL_A), ([0b01111000#8], .ld_A_B),
    ([0b01111001#8], .ld_A_C), ([0b01111010#8], .ld_A_D), ([0b01111011#8], .ld_A_E), ([0b01111100#8], .ld_A_H),
    ([0b01111101#8], .ld_A_L), ([0b01111110#8], .ld_A_atHL), ([0b01111111#8], .ld_A_A)] = true := by decide

theorem test_decode_primary_8 : decodesTo [
    ([0b10000000#8], .add_A_B), ([0b10000001#8], .add_A_C), ([0b10000010#8], .add_A_D), ([0b10000011#8], .add_A_E),
    ([0b10000100#8], .add_A_H), ([0b10000101#8], .add_A_L), ([0b10000110#8], .add_A_atHL),
    ([0b10000111#8], .add_A_A)] = true := by decide

theorem test_decode_primary_9 : decodesTo [
    ([0b10010000#8], .sub_B), ([0b10010001#8], .sub_C), ([0b10010010#8], .sub_D), ([0b10010011#8], .sub_E),
    ([0b10010100#8], .sub_H), ([0b10010101#8], .sub_L), ([0b10010110#8], .sub_atHL), ([0b10010111#8], .sub_A),
    ([0b10011000#8], .sbc_A_B), ([0b10011001#8], .sbc_A_C), ([0b10011010#8], .sbc_A_D), ([0b10011011#8], .sbc_A_E),
    ([0b10011100#8], .sbc_A_H), ([0b10011101#8], .sbc_A_L), ([0b10011110#8], .sbc_A_atHL),
    ([0b10011111#8], .sbc_A_A)] = true := by decide

theorem test_decode_primary_A : decodesTo [
    ([0b10101000#8], .xor_B), ([0b10101001#8], .xor_C), ([0b10101010#8], .xor_D), ([0b10101011#8], .xor_E),
    ([0b10101100#8], .xor_H), ([0b10101101#8], .xor_L), ([0b10101110#8], .xor_atHL),
    ([0b10101111#8], .xor_A)] = true := by decide

theorem test_decode_primary_B : decodesTo [
    ([0b10111000#8], .cp_B), ([0b10111001#8], .cp_C), ([0b10111010#8], .cp_D), ([0b10111011#8], .cp_E),
    ([0b10111100#8], .cp_H), ([0b10111101#8], .cp_L), ([0b10111110#8], .cp_atHL),
    ([0b10111111#8], .cp_A)] = true := by decide

theorem test_decode_primary_C : decodesTo [
    ([0b11000001#8], .pop_BC), ([0b11000101#8], .push_BC), ([0b11000110#8, 0x5A#8], .add_A_n 0x5A#8),
    ([0b11001001#8], .ret), ([0b11001101#8, 0x34#8, 0x12#8], .call_nn 0x1234#16)] = true := by decide

theorem test_decode_primary_D : decodesTo [
    ([0b11010001#8], .pop_DE), ([0b11010101#8], .push_DE), ([0b11010110#8, 0x5A#8], .sub_n 0x5A#8),
    ([0b11011110#8, 0x5A#8], .sbc_A_n 0x5A#8)] = true := by decide

theorem test_decode_primary_E : decodesTo [
    ([0b11100000#8, 0x5A#8], .ldh_atn_A 0x5A#8), ([0b11100001#8], .pop_HL), ([0b11100010#8], .ld_atC_A),
    ([0b11100101#8], .push_HL), ([0b11101010#8, 0x34#8, 0x12#8], .ld_atnn_A 0x1234#16),
    ([0b11101110#8, 0x5A#8], .xor_n 0x5A#8)] = true := by decide

theorem test_decode_primary_F : decodesTo [
    ([0b11110000#8, 0x5A#8], .ldh_A_atn 0x5A#8), ([0b11110001#8], .pop_AF), ([0b11110010#8], .ld_A_atC),
    ([0b11110101#8], .push_AF), ([0b11111001#8], .ld_SP_HL), ([0b11111010#8, 0x34#8, 0x12#8], .ld_A_atnn 0x1234#16),
    ([0b11111110#8, 0x5A#8], .cp_n 0x5A#8)] = true := by decide

theorem test_decode_extended_0 : decodesTo [
    ([0b11001011#8, 0b00000000#8], .rlc_B), ([0b11001011#8, 0b00000001#8], .rlc_C), ([0b11001011#8, 0b00000010#8], .rlc_D),
    ([0b11001011#8, 0b00000011#8], .rlc_E), ([0b11001011#8, 0b00000100#8], .rlc_H), ([0b11001011#8, 0b00000101#8], .rlc_L),
    ([0b11001011#8, 0b00000110#8], .rlc_atHL), ([0b11001011#8, 0b00000111#8], .rlc_A),
    ([0b11001011#8, 0b00001000#8], .rrc_B), ([0b11001011#8, 0b00001001#8], .rrc_C), ([0b11001011#8, 0b00001010#8], .rrc_D),
    ([0b11001011#8, 0b00001011#8], .rrc_E), ([0b11001011#8, 0b00001100#8], .rrc_H), ([0b11001011#8, 0b00001101#8], .rrc_L),
    ([0b11001011#8, 0b00001110#8], .rrc_atHL), ([0b11001011#8, 0b00001111#8], .rrc_A)] = true := by decide

theorem test_decode_extended_1 : decodesTo [
    ([0b11001011#8, 0b00010000#8], .rl_B), ([0b11001011#8, 0b00010001#8], .rl_C), ([0b11001011#8, 0b00010010#8], .rl_D),
    ([0b11001011#8, 0b00010011#8], .rl_E), ([0b11001011#8, 0b00010100#8], .rl_H), ([0b11001011#8, 0b00010101#8], .rl_L),
    ([0b11001011#8, 0b00010110#8], .rl_atHL), ([0b11001011#8, 0b00010111#8], .rl_A), ([0b11001011#8, 0b00011000#8], .rr_B),
    ([0b11001011#8, 0b00011001#8], .rr_C), ([0b11001011#8, 0b00011010#8], .rr_D), ([0b11001011#8, 0b00011011#8], .rr_E),
    ([0b11001011#8, 0b00011100#8], .rr_H), ([0b11001011#8, 0b00011101#8], .rr_L), ([0b11001011#8, 0b00011110#8], .rr_atHL),
    ([0b11001011#8, 0b00011111#8], .rr_A)] = true := by decide

theorem test_decode_extended_4 : decodesTo [
    ([0b11001011#8, 0b01000000#8], .bit_0_B), ([0b11001011#8, 0b01000001#8], .bit_0_C),
    ([0b11001011#8, 0b01000010#8], .bit_0_D), ([0b11001011#8, 0b01000011#8], .bit_0_E),
    ([0b11001011#8, 0b01000100#8], .bit_0_H), ([0b11001011#8, 0b01000101#8], .bit_0_L),
    ([0b11001011#8, 0b01000110#8], .bit_0_atHL), ([0b11001011#8, 0b01000111#8], .bit_0_A),
    ([0b11001011#8, 0b01001000#8], .bit_1_B), ([0b11001011#8, 0b01001001#8], .bit_1_C),
    ([0b11001011#8, 0b01001010#8], .bit_1_D), ([0b11001011#8, 0b01001011#8], .bit_1_E),
    ([0b11001011#8, 0b01001100#8], .bit_1_H), ([0b11001011#8, 0b01001101#8], .bit_1_L),
    ([0b11001011#8, 0b01001110#8], .bit_1_atHL), ([0b11001011#8, 0b01001111#8], .bit_1_A)] = true := by decide

theorem test_decode_extended_5 : decodesTo [
    ([0b11001011#8, 0b01010000#8], .bit_2_B), ([0b11001011#8, 0b01010001#8], .bit_2_C),
    ([0b11001011#8, 0b01010010#8], .bit_2_D), ([0b11001011#8, 0b01010011#8], .bit_2_E),
    ([0b11001011#8, 0b01010100#8], .bit_2_H), ([0b11001011#8, 0b01010101#8], .bit_2_L),
    ([0b11001011#8, 0b01010110#8], .bit_2_atHL), ([0b11001011#8, 0b01010111#8], .bit_2_A),
    ([0b11001011#8, 0b01011000#8], .bit_3_B), ([0b11001011#8, 0b01011001#8], .bit_3_C),
    ([0b11001011#8, 0b01011010#8], .bit_3_D), ([0b11001011#8, 0b01011011#8], .bit_3_E),
    ([0b11001011#8, 0b01011100#8], .bit_3_H), ([0b11001011#8, 0b01011101#8], .bit_3_L),
    ([0b11001011#8, 0b01011110#8], .bit_3_atHL), ([0b11001011#8, 0b01011111#8], .bit_3_A)] = true := by decide

theorem test_decode_extended_6 : decodesTo [
    ([0b11001011#8, 0b01100000#8], .bit_4_B), ([0b11001011#8, 0b01100001#8], .bit_4_C),
    ([0b11001011#8, 0b01100010#8], .bit_4_D), ([0b11001011#8, 0b01100011#8], .bit_4_E),
    ([0b11001011#8, 0b01100100#8], .bit_4_H), ([0b11001011#8, 0b01100101#8], .bit_4_L),
    ([0b11001011#8, 0b01100110#8], .bit_4_atHL), ([0b11001011#8, 0b01100111#8], .bit_4_A),
    ([0b11001011#8, 0b01101000#8], .bit_5_B), ([0b11001011#8, 0b01101001#8], .bit_5_C),
    ([0b11001011#8, 0b01101010#8], .bit_5_D), ([0b11001011#8, 0b01101011#8], .bit_5_E),
    ([0b11001011#8, 0b01101100#8], .bit_5_H), ([0b11001011#8, 0b01101101#8], .bit_5_L),
    ([0b11001011#8, 0b01101110#8], .bit_5_atHL), ([0b11001011#8, 0b01101111#8], .bit_5_A)] = true := by decide

theorem test_decode_extended_7 : decodesTo [
    ([0b11001011#8, 0b01110000#8], .bit_6_B), ([0b11001011#8, 0b01110001#8], .bit_6_C),
    ([0b11001011#8, 0b01110010#8], .bit_6_D), ([0b11001011#8, 0b01110011#8], .bit_6_E),
    ([0b11001011#8, 0b01110100#8], .bit_6_H), ([0b11001011#8, 0b01110101#8], .bit_6_L),
    ([0b11001011#8, 0b01110110#8], .bit_6_atHL), ([0b11001011#8, 0b01110111#8], .bit_6_A),
    ([0b11001011#8, 0b01111000#8], .bit_7_B), ([0b11001011#8, 0b01111001#8], .bit_7_C),
    ([0b11001011#8, 0b01111010#8], .bit_7_D), ([0b11001011#8, 0b01111011#8], .bit_7_E),
    ([0b11001011#8, 0b01111100#8], .bit_7_H), ([0b11001011#8, 0b01111101#8], .bit_7_L),
    ([0b11001011#8, 0b01111110#8], .bit_7_atHL), ([0b11001011#8, 0b01111111#8], .bit_7_A)] = true := by decide

/-- Absent values (S9, R97). -/
theorem test_decode_absent : decode [0x76#8] = .unimplementedOpcode 0x76#8 false ∧
    decode [0xCB#8, 0x30#8] = .unimplementedOpcode 0x30#8 true ∧ decode [0x20#8, 0xFB#8] = .instr (.jr_NZ_e 0xFB#8) [] ∧
    decode [0xCB#8, 0x20#8] = .unimplementedOpcode 0x20#8 true := by decide

/-- Too few bytes. -/
theorem test_decode_truncated : decode [] = .truncated ∧ decode [0xCB#8] = .truncated ∧ decode [0x3E#8] = .truncated ∧
    decode [0x21#8, 0x00#8] = .truncated := by decide

/-- The table's numbering of an extended row and of a primary row (30_encoding.md R104; log 14). -/
theorem test_decodeTableWord : decodeTableWord 16 0xCB7E = some .bit_7_atHL ∧ decodeTableWord 8 0x3E = some (.ld_A_n 0x00#8) ∧
    decodeTableWord 16 0x053E = some (.ld_A_n 0x05#8) ∧ decodeTableWord 24 0xC00021 = some (.ld_HL_nn 0xC000#16) ∧
    decodeTableWord 8 0x76 = none := by decide

/-- The escape row alone is completed by zeros, so it reads as the extended row `CB 00` (log 13). -/
theorem test_decodeTableWord_escape : decodeTableWord 8 0xCB = some .rlc_B := by decide

/-- The first step after placing a word runs it. -/
theorem test_withFetchWord : (stepped (State.reset.withFetchWord 8 0x3C)).a = 0x01#8 ∧
    (stepped (State.reset.withFetchWord 16 0xCB11)).trace = [⟨0x0000#16, 0x11#8, "RL C", true⟩] := by decide

/-! ## The helpers: V1 to V8 -/

/-- V1 (R180, R181). -/
theorem test_increment8_decrement8 :
    increment8 0x00#8 0x00#8 = (0x01#8, flags false false false false) ∧
    increment8 0x0F#8 0x00#8 = (0x10#8, flags false false true false) ∧
    increment8 0x7F#8 0x10#8 = (0x80#8, flags false false true true) ∧
    increment8 0xFE#8 0xF0#8 = (0xFF#8, flags false false false true) ∧
    increment8 0xFF#8 0x00#8 = (0x00#8, flags true false true false) ∧
    increment8 0xFF#8 0x10#8 = (0x00#8, flags true false true true) ∧
    decrement8 0x00#8 0x00#8 = (0xFF#8, flags false true true false) ∧
    decrement8 0x01#8 0x10#8 = (0x00#8, flags true true false true) ∧
    decrement8 0x10#8 0x00#8 = (0x0F#8, flags false true true false) ∧
    decrement8 0x80#8 0xF0#8 = (0x7F#8, flags false true true true) ∧
    decrement8 0xFF#8 0x00#8 = (0xFE#8, flags false true false false) := by
  decide

/-- V2 (R182). -/
theorem test_add8 :
    add8 0x00#8 0x00#8 0xF0#8 = (0x00#8, flags true false false false) ∧
    add8 0x0F#8 0x01#8 0xF0#8 = (0x10#8, flags false false true false) ∧
    add8 0xFF#8 0x01#8 0xF0#8 = (0x00#8, flags true false true true) ∧
    add8 0x80#8 0x80#8 0xF0#8 = (0x00#8, flags true false false true) ∧
    add8 0x7F#8 0x01#8 0xF0#8 = (0x80#8, flags false false true false) ∧
    add8 0xF0#8 0x0F#8 0xF0#8 = (0xFF#8, flags false false false false) ∧
    add8 0x08#8 0x08#8 0xF0#8 = (0x10#8, flags false false true false) ∧
    add8 0xFF#8 0xFF#8 0xF0#8 = (0xFE#8, flags false false true true) := by
  decide

/-- V3 (R183). -/
theorem test_sub8 :
    sub8 0x00#8 0x00#8 0x00#8 = (0x00#8, flags true true false false) ∧
    sub8 0x10#8 0x01#8 0x00#8 = (0x0F#8, flags false true true false) ∧
    sub8 0x00#8 0x01#8 0x00#8 = (0xFF#8, flags false true true true) ∧
    sub8 0x80#8 0x7F#8 0x00#8 = (0x01#8, flags false true true false) ∧
    sub8 0x0F#8 0x10#8 0x00#8 = (0xFF#8, flags false true false true) ∧
    sub8 0xFF#8 0xFF#8 0x00#8 = (0x00#8, flags true true false false) ∧
    sub8 0x3C#8 0x40#8 0x00#8 = (0xFC#8, flags false true false true) ∧
    sub8 0x01#8 0xFF#8 0x00#8 = (0x02#8, flags false true true true) := by
  decide

/-- V3 (R184). -/
theorem test_compare8 :
    compare8 0x00#8 0x00#8 0xF0#8 = flags true true false false ∧
    compare8 0x10#8 0x01#8 0xF0#8 = flags false true true false ∧
    compare8 0x00#8 0x01#8 0xF0#8 = flags false true true true ∧
    compare8 0x80#8 0x7F#8 0xF0#8 = flags false true true false ∧
    compare8 0x0F#8 0x10#8 0xF0#8 = flags false true false true ∧
    compare8 0xFF#8 0xFF#8 0xF0#8 = flags true true false false ∧
    compare8 0x3C#8 0x40#8 0xF0#8 = flags false true false true ∧
    compare8 0x01#8 0xFF#8 0xF0#8 = flags false true true true := by
  decide

/-- V4 (R185). -/
theorem test_sbc8 :
    sbc8 0x00#8 0x00#8 0x00#8 = (0x00#8, flags true true false false) ∧
    sbc8 0x00#8 0x00#8 0x10#8 = (0xFF#8, flags false true true true) ∧
    sbc8 0x10#8 0x0F#8 0x00#8 = (0x01#8, flags false true true false) ∧
    sbc8 0x10#8 0x0F#8 0x10#8 = (0x00#8, flags true true false false) ∧
    sbc8 0x0F#8 0x0F#8 0x10#8 = (0xFF#8, flags false true false true) ∧
    sbc8 0x20#8 0x1F#8 0x10#8 = (0x00#8, flags true true false false) ∧
    sbc8 0x00#8 0xFF#8 0x10#8 = (0x00#8, flags true true false true) ∧
    sbc8 0x55#8 0xFF#8 0x10#8 = (0x55#8, flags false true false true) ∧
    sbc8 0x01#8 0x01#8 0x10#8 = (0xFF#8, flags false true true true) ∧
    sbc8 0x80#8 0x7F#8 0x10#8 = (0x00#8, flags true true false false) ∧
    sbc8 0xFF#8 0xFF#8 0x00#8 = (0x00#8, flags true true false false) := by
  decide

/-- V5 (R186). -/
theorem test_xor8 :
    xor8 0x00#8 0x00#8 0xF0#8 = (0x00#8, flags true false false false) ∧
    xor8 0xFF#8 0xFF#8 0xF0#8 = (0x00#8, flags true false false false) ∧
    xor8 0xF0#8 0x0F#8 0xF0#8 = (0xFF#8, flags false false false false) ∧
    xor8 0xA5#8 0x5A#8 0xF0#8 = (0xFF#8, flags false false false false) ∧
    xor8 0x01#8 0x00#8 0xF0#8 = (0x01#8, flags false false false false) := by
  decide

/-- V6 (R210). -/
theorem test_add16 :
    add16 0x0000#16 0x0000#16 0x80#8 = (0x0000#16, flags true false false false) ∧
    add16 0x0FFF#16 0x0001#16 0x00#8 = (0x1000#16, flags false false true false) ∧
    add16 0xFFFF#16 0x0001#16 0x00#8 = (0x0000#16, flags false false true true) ∧
    add16 0xFFFF#16 0x0001#16 0x80#8 = (0x0000#16, flags true false true true) ∧
    add16 0x8000#16 0x8000#16 0x40#8 = (0x0000#16, flags false false false true) ∧
    add16 0x0FCC#16 0x1234#16 0x80#8 = (0x2200#16, flags true false true false) ∧
    add16 0x00FF#16 0x0001#16 0xF0#8 = (0x0100#16, flags true false false false) ∧
    add16 0xF000#16 0x1000#16 0x00#8 = (0x0000#16, flags false false false true) := by
  decide

/-- V6 (R211). -/
theorem test_step16 :
    increment16 0xFFFF#16 = 0x0000#16 ∧
    increment16 0x00FF#16 = 0x0100#16 ∧
    decrement16 0x0000#16 = 0xFFFF#16 ∧
    decrement16 0x0100#16 = 0x00FF#16 := by
  decide

/-- V7 (R220). -/
theorem test_rotateLeft :
    rotateLeft 0x00#8 0x00#8 = (0x00#8, flags false false false false) ∧
    rotateLeft 0x00#8 0x10#8 = (0x00#8, flags false false false false) ∧
    rotateLeft 0x80#8 0x00#8 = (0x01#8, flags false false false true) ∧
    rotateLeft 0x01#8 0x00#8 = (0x02#8, flags false false false false) ∧
    rotateLeft 0x85#8 0x10#8 = (0x0B#8, flags false false false true) ∧
    rotateLeft 0xFF#8 0x00#8 = (0xFF#8, flags false false false true) ∧
    rotateLeft 0x7E#8 0x10#8 = (0xFC#8, flags false false false false) := by
  decide

/-- V7 (R221). -/
theorem test_rotateRight :
    rotateRight 0x00#8 0x00#8 = (0x00#8, flags false false false false) ∧
    rotateRight 0x00#8 0x10#8 = (0x00#8, flags false false false false) ∧
    rotateRight 0x80#8 0x00#8 = (0x40#8, flags false false false false) ∧
    rotateRight 0x01#8 0x00#8 = (0x80#8, flags false false false true) ∧
    rotateRight 0x85#8 0x10#8 = (0xC2#8, flags false false false true) ∧
    rotateRight 0xFF#8 0x00#8 = (0xFF#8, flags false false false true) ∧
    rotateRight 0x7E#8 0x10#8 = (0x3F#8, flags false false false false) := by
  decide

/-- V7 (R222). -/
theorem test_rotateLeftThroughCarry :
    rotateLeftThroughCarry 0x00#8 0x00#8 = (0x00#8, flags true false false false) ∧
    rotateLeftThroughCarry 0x00#8 0x10#8 = (0x01#8, flags false false false false) ∧
    rotateLeftThroughCarry 0x80#8 0x00#8 = (0x00#8, flags true false false true) ∧
    rotateLeftThroughCarry 0x01#8 0x00#8 = (0x02#8, flags false false false false) ∧
    rotateLeftThroughCarry 0x85#8 0x10#8 = (0x0B#8, flags false false false true) ∧
    rotateLeftThroughCarry 0xFF#8 0x00#8 = (0xFE#8, flags false false false true) ∧
    rotateLeftThroughCarry 0x7E#8 0x10#8 = (0xFD#8, flags false false false false) := by
  decide

/-- V7 (R223). -/
theorem test_rotateRightThroughCarry :
    rotateRightThroughCarry 0x00#8 0x00#8 = (0x00#8, flags true false false false) ∧
    rotateRightThroughCarry 0x00#8 0x10#8 = (0x80#8, flags false false false false) ∧
    rotateRightThroughCarry 0x80#8 0x00#8 = (0x40#8, flags false false false false) ∧
    rotateRightThroughCarry 0x01#8 0x00#8 = (0x00#8, flags true false false true) ∧
    rotateRightThroughCarry 0x85#8 0x10#8 = (0xC2#8, flags false false false true) ∧
    rotateRightThroughCarry 0xFF#8 0x00#8 = (0x7F#8, flags false false false true) ∧
    rotateRightThroughCarry 0x7E#8 0x10#8 = (0xBF#8, flags false false false false) := by
  decide

/-- V8 (R224). -/
theorem test_bitTest :
    bitTest 0 0x01#8 0x00#8 = flags false false true false ∧
    bitTest 0 0xFE#8 0x10#8 = flags true false true true ∧
    bitTest 7 0x80#8 0xF0#8 = flags false false true true ∧
    bitTest 7 0x7F#8 0x00#8 = flags true false true false ∧
    bitTest 3 0x08#8 0x10#8 = flags false false true true ∧
    bitTest 4 0xEF#8 0xC0#8 = flags true false true false := by
  decide
/-! ## Routing: S2 -/

/-- S2: the boundary vector, both ends of every store. -/
theorem test_S2_boundaries_low :
    route 0x0000#16 = some (.romBank0, 0x0000) ∧ route 0x3FFF#16 = some (.romBank0, 0x3FFF) ∧
    route 0x4000#16 = some (.romBankN, 0x0000) ∧ route 0x7FFF#16 = some (.romBankN, 0x3FFF) ∧
    route 0x8000#16 = some (.vram, 0x0000) ∧ route 0x9FFF#16 = some (.vram, 0x1FFF) ∧
    route 0xA000#16 = some (.eram, 0x0000) ∧ route 0xBFFF#16 = some (.eram, 0x1FFF) ∧
    route 0xC000#16 = some (.wramBank0, 0x0000) ∧ route 0xCFFF#16 = some (.wramBank0, 0x0FFF) ∧
    route 0xD000#16 = some (.wramBankN, 0x0000) ∧ route 0xDFFF#16 = some (.wramBankN, 0x0FFF) := by decide

theorem test_S2_boundaries_high :
    route 0xE000#16 = some (.echo, 0x0000) ∧ route 0xFDFF#16 = some (.echo, 0x1DFF) ∧
    route 0xFE00#16 = some (.oam, 0x00) ∧ route 0xFE9F#16 = some (.oam, 0x9F) ∧
    route 0xFEA0#16 = none ∧ route 0xFEFF#16 = none ∧
    route 0xFF00#16 = some (.io, 0x00) ∧ route 0xFF7F#16 = some (.io, 0x7F) ∧
    route 0xFF80#16 = some (.hram, 0x00) ∧ route 0xFFFE#16 = some (.hram, 0x7E) ∧ route 0xFFFF#16 = some (.ie, 0) := by decide

/-! ## One step: S1, S3, S7, S8, V9 -/

/-- S1: `LD A,5`, then `INC A`. -/
theorem test_S1_ld_A_n : (stepped (placed 0x0000#16 [0x3E#8, 0x05#8, 0x3C#8])).a = 0x05#8 ∧
    (stepped (placed 0x0000#16 [0x3E#8, 0x05#8, 0x3C#8])).pc = 0x0002#16 := by decide

theorem test_S1_inc_A :
    (executed .inc_A { State.reset with a := 0x05#8 }).a = 0x06#8 ∧
      znhc (executed .inc_A { State.reset with a := 0x05#8 }) = (false, false, false, false) := by decide

/-- S1: the record. -/
theorem test_S1_trace : (stepped (placed 0x0000#16 [0x3E#8, 0x05#8])).trace = [⟨0x0000#16, 0x3E#8, "LD A,n", false⟩] := by
  decide

/-- S10. -/
theorem test_S10_ld_HL : (executed (.ld_HL_nn 0xC0DE#16) State.reset).h = 0xC0#8 ∧
    (executed (.ld_HL_nn 0xC0DE#16) State.reset).l = 0xDE#8 := by decide

theorem test_ld_A_B : (executed .ld_A_B { State.reset with b := 0x12#8 }).a = 0x12#8 := by decide

/-- The load of `A` from `(HL)`; `F` is as it was. -/
theorem test_ld_A_atHL :
    let s := given 0xC000#16 [0x5A#8] { State.reset with h := 0xC0#8, l := 0x00#8, f := 0xF0#8 }
    (executed .ld_A_atHL s).a = 0x5A#8 ∧ (executed .ld_A_atHL s).f = 0xF0#8 := by decide

theorem test_ld_atHL_A :
    (executed .ld_atHL_A { State.reset with h := 0xC0#8, l := 0x10#8, a := 0x99#8 }).peek 0xC010#16 = some 0x99#8 := by decide

/-- Video RAM: its other bytes hold a free value, so this one goes by the laws. -/
theorem test_ld_atHL_n (s : State) (h : s.hl = 0x8000#16) :
    ∃ t, exec (.ld_atHL_n 0x7F#8) s = .next t ∧ t.peek 0x8000#16 = some 0x7F#8 := by
  have hc : CanWrite s.hl := by rw [h]; decide
  refine ⟨_, (exec_ld_atHL_n _ s).trans (complete_ok (storeImm_ok _ hc)), ?_⟩
  rw [← h]
  exact State.peek_poke_self _ hc.2

theorem test_ld_atHLplus_A :
    let s : State := { State.reset with h := 0xC0#8, l := 0x00#8, a := 0x10#8 }
    (executed .ld_atHLplus_A s).peek 0xC000#16 = some 0x10#8 ∧ (executed .ld_atHLplus_A s).hl = 0xC001#16 := by decide

theorem test_ld_atHLminus_A :
    let s : State := { State.reset with h := 0xA0#8, l := 0x00#8, a := 0x55#8 }
    (executed .ld_atHLminus_A s).peek 0xA000#16 = some 0x55#8 ∧ (executed .ld_atHLminus_A s).hl = 0x9FFF#16 := by decide

theorem test_ld_A_atHLplus :
    let s := given 0xFFFF#16 [0x1F#8] { State.reset with h := 0xFF#8, l := 0xFF#8 }
    (executed .ld_A_atHLplus s).a = 0x1F#8 ∧ (executed .ld_A_atHLplus s).hl = 0x0000#16 := by decide

theorem test_ld_A_atHLminus :
    let s := given 0x0000#16 [0x3E#8] State.reset
    (executed .ld_A_atHLminus s).a = 0x3E#8 ∧ (executed .ld_A_atHLminus s).hl = 0xFFFF#16 := by decide

theorem test_ld_atnn_A :
    (executed (.ld_atnn_A 0xC100#16) { State.reset with a := 0x42#8 }).peek 0xC100#16 = some 0x42#8 := by decide

theorem test_ldh_atn_A : (executed (.ldh_atn_A 0x40#8) { State.reset with a := 0x80#8 }).peek 0xFF40#16 = some 0x80#8 := by decide

theorem test_ld_A_atC :
    (executed .ld_A_atC (given 0xFFFF#16 [0x1F#8] { State.reset with c := 0xFF#8 })).a = 0x1F#8 := by decide

theorem test_ld_SP_nn : (executed (.ld_SP_nn 0xFFFE#16) State.reset).sp = 0xFFFE#16 := by decide

/-- A word stored across two regions. -/
theorem test_ld_atnn_SP :
    let t := executed (.ld_atnn_SP 0xDFFF#16) { State.reset with sp := 0x1234#16 }
    t.peek 0xDFFF#16 = some 0x34#8 ∧ t.peek 0xE000#16 = some 0x12#8 := by decide

theorem test_ld_SP_HL : (executed .ld_SP_HL { State.reset with h := 0xD0#8 }).sp = 0xD000#16 := by decide

/-- Echo RAM is no mirror of Work RAM. -/
theorem test_echo : (executed (.ld_atnn_A 0xE000#16) { State.reset with a := 0x55#8 }).peek 0xC000#16 = some 0x00#8 := by decide

/-! ## ALU instructions -/

/-- S6: `A` is not changed by a compare. -/
theorem test_cp_B :
    let t := executed .cp_B { State.reset with a := 0x3C#8, b := 0x40#8 }
    t.a = 0x3C#8 ∧ znhc t = (false, true, false, true) := by decide

/-- P5, step 5. -/
theorem test_sbc_A_n :
    let t := executed (.sbc_A_n 0x00#8) { State.reset with a := 0x10#8, f := 0x70#8 }
    t.a = 0x0F#8 ∧ znhc t = (false, true, true, false) := by decide

/-- P5, step 2. -/
theorem test_sub_n : (executed (.sub_n 0x01#8) State.reset).a = 0xFF#8 ∧
    znhc (executed (.sub_n 0x01#8) State.reset) = (false, true, true, true) := by decide

theorem test_add_A_A :
    let t := executed .add_A_A { State.reset with a := 0x80#8 }
    t.a = 0x00#8 ∧ znhc t = (true, false, false, true) := by decide

/-- V5: `XOR A`. -/
theorem test_xor_A : znhc (executed .xor_A { State.reset with a := 0xA5#8, f := 0xF0#8 }) = (true, false, false, false) := by decide

/-- P2, step 18. -/
theorem test_dec_B : znhc (executed .dec_B { State.reset with b := 0x01#8 }) = (true, true, false, false) := by decide

/-- P3, step 6. -/
theorem test_add_HL_BC :
    let t := executed .add_HL_BC { State.reset with b := 0x12#8, c := 0x34#8, h := 0x0F#8, l := 0xCC#8 }
    t.hl = 0x2200#16 ∧ znhc t = (false, false, true, false) := by decide

theorem test_inc_SP : (executed .inc_SP { State.reset with sp := 0xFFFF#16 }).sp = 0x0000#16 := by decide

theorem test_dec_BC : (executed .dec_BC State.reset).get16 .bc = 0xFFFF#16 := by decide

/-! ## Rotates and bit test: P7 -/

theorem test_rla :
    let t := executed .rla { State.reset with a := 0x80#8 }
    t.a = 0x00#8 ∧ znhc t = (true, false, false, true) := by decide

theorem test_rlca : (executed .rlca { State.reset with a := 0x01#8 }).a = 0x02#8 := by decide

theorem test_bit_0_A : znhc (executed .bit_0_A { State.reset with a := 0x02#8 }) = (true, false, true, false) := by decide

theorem test_rrc_A : (executed .rrc_A { State.reset with a := 0x02#8 }).a = 0x01#8 := by decide

/-- V7 on a byte of memory, through a step. -/
theorem test_rl_atHL :
    let t := stepped (given 0xC000#16 [0x85#8] { placed 0x0000#16 [0xCB#8, 0x16#8] with h := 0xC0#8, f := 0x10#8 })
    t.peek 0xC000#16 = some 0x0B#8 ∧ znhc t = (false, false, false, true) ∧ t.pc = 0x0002#16 := by decide

/-! ## Stack and control: V10 -/

theorem test_push_BC :
    let t := executed .push_BC { State.reset with b := 0x12#8, c := 0x34#8, sp := 0xFFFE#16 }
    t.sp = 0xFFFC#16 ∧ t.peek 0xFFFC#16 = some 0x34#8 ∧ t.peek 0xFFFD#16 = some 0x12#8 := by decide

/-- `sp` wraps: the low byte in High RAM, the high byte the Interrupt-Enable byte; no fault. -/
theorem test_push_BC_wraps :
    let t := executed .push_BC { State.reset with b := 0x12#8, c := 0x34#8 }
    t.sp = 0xFFFE#16 ∧ t.peek 0xFFFE#16 = some 0x34#8 ∧ t.mem.ie = 0x12#8 ∧ t.status = .running := by decide

theorem test_pop_DE :
    let t := executed .pop_DE (given 0xFFFC#16 [0x34#8, 0x12#8] { State.reset with sp := 0xFFFC#16 })
    t.get16 .de = 0x1234#16 ∧ t.sp = 0xFFFE#16 := by decide

theorem test_pop_AF :
    let t := executed .pop_AF (given 0xC000#16 [0x9F#8, 0x01#8] { State.reset with sp := 0xC000#16 })
    t.a = 0x01#8 ∧ t.f = 0x90#8 ∧ t.sp = 0xC002#16 := by decide

theorem test_jr_e : (stepped (placed 0x0100#16 [0x18#8, 0x05#8])).pc = 0x0107#16 ∧
    (stepped (placed 0x0009#16 [0x18#8, 0xFE#8])).pc = 0x0009#16 ∧
    (stepped (placed 0x0000#16 [0x18#8, 0x80#8])).pc = 0xFF82#16 := by decide

theorem test_jr_NZ_e : (stepped (placed 0x000A#16 [0x20#8, 0xFB#8])).pc = 0x0007#16 ∧
    (stepped { placed 0x000A#16 [0x20#8, 0xFB#8] with f := 0x80#8 }).pc = 0x000C#16 := by decide

theorem test_jr_Z_e : (stepped { placed 0x0010#16 [0x28#8, 0x02#8] with f := 0x80#8 }).pc = 0x0014#16 ∧
    (stepped (placed 0x0010#16 [0x28#8, 0x02#8])).pc = 0x0012#16 := by decide

theorem test_call_nn :
    let t := stepped { placed 0x0006#16 [0xCD#8, 0x0C#8, 0x00#8] with sp := 0xFFFE#16 }
    t.pc = 0x000C#16 ∧ t.sp = 0xFFFC#16 ∧ t.peek 0xFFFC#16 = some 0x09#8 ∧ t.peek 0xFFFD#16 = some 0x00#8 := by decide

theorem test_ret :
    let t := executed .ret (given 0xFFFC#16 [0x09#8, 0x00#8] { State.reset with sp := 0xFFFC#16 })
    t.pc = 0x0009#16 ∧ t.sp = 0xFFFE#16 := by decide

theorem test_nop : (stepped (placed 0x0100#16 [0x00#8])).pc = 0x0101#16 := by decide

/-! ## Faults: V11 -/

theorem test_fault_store_to_rom :
    let t := stepped (placed 0x0100#16 [0x77#8])
    t.status = memFault 0x0000#16 .write ∧ t.pc = 0x0101#16 ∧ t.trace = [⟨0x0100#16, 0x77#8, "LD (HL),A", false⟩] := by decide

theorem test_fault_inc_atHL_in_rom :
    let t := stepped { placed 0x0100#16 [0x34#8] with h := 0x7F#8, l := 0xFF#8, f := 0x50#8 }
    t.status = memFault 0x7FFF#16 .write ∧ t.f = 0x50#8 := by decide

theorem test_fault_load_from_unused :
    let t := stepped { placed 0x0100#16 [0xFA#8, 0xA0#8, 0xFE#8] with a := 0x07#8 }
    t.status = memFault 0xFEA0#16 .read ∧ t.pc = 0x0103#16 ∧ t.a = 0x07#8 := by decide

theorem test_fault_fetch_from_unused :
    let t := stepped { State.reset with pc := 0xFEA0#16 }
    t.status = memFault 0xFEA0#16 .read ∧ t.pc = 0xFEA0#16 ∧ t.trace = [] := by decide

theorem test_fault_operand_in_unused :
    let t := stepped (placed 0xFE9F#16 [0x3E#8])
    t.status = memFault 0xFEA0#16 .read ∧ t.pc = 0xFEA0#16 ∧ t.trace = [⟨0xFE9F#16, 0x3E#8, "LD A,n", false⟩] := by decide

theorem test_extended_ends_before_unused :
    let t := stepped (placed 0xFE9E#16 [0xCB#8, 0x40#8])
    t.status = .running ∧ t.pc = 0xFEA0#16 ∧ znhc t = (true, false, true, false) := by decide

theorem test_fault_escape_before_unused :
    let t := stepped (placed 0xFE9F#16 [0xCB#8])
    t.status = memFault 0xFEA0#16 .read ∧ t.pc = 0xFEA0#16 ∧ t.trace = [] := by decide

theorem test_fault_absent_opcode :
    let t := stepped (placed 0x0100#16 [0x76#8])
    t.status = opFault 0x76#8 false ∧ t.pc = 0x0101#16 ∧ t.trace = [] := by decide

theorem test_fault_absent_extended_opcode :
    let t := stepped (placed 0x0100#16 [0xCB#8, 0x30#8])
    t.status = opFault 0x30#8 true ∧ t.pc = 0x0102#16 ∧ t.trace = [] := by decide

theorem test_fault_push_across_ie :
    let t := executed .push_BC { State.reset with b := 0x12#8, c := 0x34#8, sp := 0x0001#16 }
    t.status = memFault 0x0000#16 .write ∧ t.sp = 0xFFFF#16 ∧ t.mem.ie = 0x34#8 := by decide

theorem test_fault_push_half_written :
    let t := executed .push_BC { State.reset with b := 0x12#8, c := 0x34#8, sp := 0xFEA1#16 }
    t.status = memFault 0xFEA0#16 .write ∧ t.sp = 0xFE9F#16 ∧ t.peek 0xFE9F#16 = some 0x34#8 := by decide

theorem test_fault_pop :
    let t := executed .pop_BC { State.reset with b := 0x12#8, c := 0x34#8, sp := 0xFE9F#16 }
    t.status = memFault 0xFEA0#16 .read ∧ t.sp = 0xFE9F#16 ∧ t.get16 .bc = 0x1234#16 := by decide

theorem test_fault_call :
    let t := stepped { placed 0x0100#16 [0xCD#8, 0x00#8, 0xC0#8] with sp := 0x8001#16 }
    t.status = memFault 0x7FFF#16 .write ∧ t.sp = 0x7FFF#16 ∧ t.pc = 0x0103#16 := by decide

theorem test_faulted_state_stays :
    stepped { State.reset with status := opFault 0x76#8 false } = { State.reset with status := opFault 0x76#8 false } := by decide

/-- The escape's own meaning (log 13): `pc` stands at the byte after it. -/
theorem test_escape :
    let t := executed .escape { placed 0x0101#16 [0x11#8] with c := 0x80#8 }
    t.c = 0x00#8 ∧ t.pc = 0x0102#16 ∧ t.trace = [⟨0x0100#16, 0x11#8, "RL C", true⟩] := by decide

/-! ## Witnesses: for every statement with hypotheses, states and operands that meet them together, at the ends of each
clause's range -/

/-- A state with `HL`, `sp`, `A`, the flags and two bytes at `0xC000`. -/
def sample (hl sp : Word) : State :=
  { State.reset with a := 0x3C#8, f := 0x10#8, b := 0x12#8, c := 0x34#8, h := hiByte hl, l := loByte hl, sp := sp,
                     mem := (State.reset.preload 0xC000#16 [0x5A#8, 0xA5#8]).mem }

theorem witness_DecodeAfterEncodeGivesTheInstruction : (Instr.ld_A_n 0x05#8).WellFormed ∧ Instr.bit_7_A.WellFormed := by decide

theorem witness_EveryDecodedWordIsAnEncoding :
    decode [0x3E#8, 0x05#8, 0xAA#8] = .instr (.ld_A_n 0x05#8) [0xAA#8] := by decide

theorem witness_AbsentOpcodesAreTheListedOnes_primary :
    (placed 0x0100#16 [0x10#8]).status = .running ∧ (placed 0x0100#16 [0x10#8]).peek 0x0100#16 = some 0x10#8 ∧
    decode [0x10#8] = .unimplementedOpcode 0x10#8 false ∧
    (placed 0x0100#16 [0xFF#8]).peek 0x0100#16 = some 0xFF#8 ∧ decode [0xFF#8] = .unimplementedOpcode 0xFF#8 false := by decide

theorem witness_AbsentOpcodesAreTheListedOnes_extended :
    (placed 0x0100#16 [0xCB#8, 0x20#8]).status = .running ∧
    (placed 0x0100#16 [0xCB#8, 0x20#8]).peek 0x0100#16 = some 0xCB#8 ∧
    (placed 0x0100#16 [0xCB#8, 0x20#8]).peek 0x0101#16 = some 0x20#8 ∧
    decode [0xCB#8, 0x3F#8] = .unimplementedOpcode 0x3F#8 true ∧ decode [0xCB#8, 0x40#8] = .instr .bit_0_B [] ∧
    decode [0xCB#8, 0x7F#8] = .instr .bit_7_A [] ∧ decode [0xCB#8, 0x80#8] = .unimplementedOpcode 0x80#8 true ∧
    decode [0xCB#8, 0xFF#8] = .unimplementedOpcode 0xFF#8 true := by decide

/-- Both ends of a store's indices, two addresses that are one, and a banked and a simple row at their last addresses. -/
theorem witness_RoutingReachesOneByteOfOneStore :
    ((StoreId.romBankN, 0x4000, 16384) ∈ ([(.romBankN, 0x4000, 16384), (.ie, 0xFFFF, 1)] : List (StoreId × Nat × Nat)) ∧
      16383 < 16384 ∧ 0 < 1) ∧
    (route 0x7FFF#16 = some (.romBankN, 0x3FFF) ∧ route 0xFFFF#16 = some (.ie, 0)) ∧
    ((⟨"Work RAM", 0xC000, 0xDFFF, 8192, true, true, true⟩ : Region) ∈ regionTable ∧ 0xC000 ≤ (0xDFFF#16).toNat ∧
      (0xDFFF#16).toNat ≤ 0xDFFF) ∧
    ((⟨"Echo RAM", 0xE000, 0xFDFF, 7680, false, true, true⟩ : Region) ∈ regionTable ∧ 0xE000 ≤ (0xFDFF#16).toNat ∧
      (0xFDFF#16).toNat ≤ 0xFDFF) := by decide

theorem witness_ByteAccessSucceedsOutsideRomAndUnused :
    InUnused 0xFEA0#16 ∧ InUnused 0xFEFF#16 ∧ ¬InUnused 0xFE9F#16 ∧ ¬InUnused 0xFF00#16 ∧ InRom 0x0000#16 ∧ InRom 0x7FFF#16 ∧
    CanWrite 0x8000#16 ∧ CanWrite 0xFFFF#16 ∧ route 0x8000#16 = some (.vram, 0) ∧ (1 < Store.size .vram) ∧
    ((StoreId.vram, 1) ≠ (StoreId.vram, 0)) ∧ (0 < Store.size .ie) := by decide

theorem witness_UnusedRegionRejectsEverything :
    InUnused 0xFEA0#16 ∧ (State.reset.setPc 0xFEA0#16).status = .running ∧ (State.reset.setPc 0xFEA0#16).pc = 0xFEA0#16 ∧
    InUnused 0xFEFF#16 ∧ (State.reset.setPc 0xFEFF#16).pc = 0xFEFF#16 := by decide

theorem witness_EchoRamIsNotAMirror : (0 < 7680) ∧ (7679 < 7680) ∧ BitVec.ofNat 16 (0xE000 + 7679) = 0xFDFF#16 := by decide

theorem witness_WordAccessIsTwoBytesLowFirst :
    (CanWrite 0x8000#16 ∧ CanWrite (0x8000#16 + 1#16)) ∧ (CanWrite 0xFFFE#16 ∧ CanWrite (0xFFFE#16 + 1#16)) ∧
    (CanWrite 0xFE9F#16 ∧ ¬CanWrite (0xFE9F#16 + 1#16)) ∧ (CanWrite 0xFFFF#16 ∧ ¬CanWrite (0xFFFF#16 + 1#16)) ∧
    ¬CanWrite 0x7FFF#16 ∧ InUnused 0xFEFF#16 ∧ (¬InUnused 0xFE9F#16 ∧ InUnused (0xFE9F#16 + 1#16)) := by decide

theorem witness_ResetMemory :
    (0x8000 ≤ (0x8000#16).toNat ∧ (0x9FFF#16).toNat ≤ 0x9FFF) ∧
    (0x100 ≤ (0x0100#16).toNat ∧ ¬(0x8000 ≤ (0x0100#16).toNat) ∧ ¬InUnused 0x0100#16) ∧
    (0x100 ≤ (0xFFFF#16).toNat ∧ ¬((0xFFFF#16).toNat ≤ 0x9FFF) ∧ ¬InUnused 0xFFFF#16) := by decide

theorem witness_PreloadGivesRomItsContents :
    [0x3E#8, 0x05#8, 0x3C#8].length ≤ 32768 ∧ InRom 0x0002#16 ∧ InRom 0x7FFF#16 ∧ ¬InRom 0x8000#16 ∧
    (State.reset.preloadRom [0x3E#8, 0x05#8, 0x3C#8]).peek 0x0002#16 = some 0x3C#8 ∧
    (State.reset.preloadRom [0x3E#8, 0x05#8, 0x3C#8]).peek 0x0003#16 = some 0x00#8 := by decide

/-- A step that completes and one that faults, both from states with the invariant. -/
theorem witness_EveryStepKeepsTheInvariant :
    ((placed 0x0100#16 [0x3C#8]).f &&& 0x0F#8 = 0x00#8 ∧ (placed 0x0100#16 [0x3C#8]).mem.wf = true ∧
      ∃ t, step (placed 0x0100#16 [0x3C#8]) = .next t ∧ decide (t.a = 0x01#8) = true) ∧
    ((placed 0x0100#16 [0x77#8]).mem.wf = true ∧
      ∃ t, step (placed 0x0100#16 [0x77#8]) = .next t ∧ decide (t.status = memFault 0x0000#16 .write) = true) :=
  ⟨⟨by decide, by decide, exists_next (by decide)⟩, by decide, exists_next (by decide)⟩

theorem witness_NoStepChangesRom :
    ∃ t, step { placed 0x0100#16 [0x77#8] with h := 0xC0#8 } = .next t ∧ decide (t.status = .running) = true :=
  exists_next (by decide)

theorem witness_EveryStepRequestHasAnOutcome : State.reset.status = .running := by decide

theorem witness_RaisedFaultsAreTheTwoKinds :
    (∃ t, step (State.reset.setPc 0xFEA0#16) = .next t ∧ decide (t.status = memFault 0xFEA0#16 .read) = true) ∧
    (∃ t, step (placed 0x0100#16 [0x77#8]) = .next t ∧ decide (t.status = memFault 0x0000#16 .write) = true) ∧
    (∃ t, step { placed 0x0100#16 [0x77#8] with h := 0xFE#8, l := 0xFF#8 } = .next t ∧
      decide (t.status = memFault 0xFEFF#16 .write) = true) ∧
    (∃ t, step (placed 0x0100#16 [0x76#8]) = .next t ∧ decide (t.status = opFault 0x76#8 false) = true) ∧
    (∃ t, step (placed 0x0100#16 [0xCB#8, 0x30#8]) = .next t ∧ decide (t.status = opFault 0x30#8 true) = true) :=
  ⟨exists_next (by decide), exists_next (by decide), exists_next (by decide), exists_next (by decide), exists_next (by decide)⟩

theorem witness_AFaultLeavesWhatWasReached :
    (∃ t, exec .ld_atHL_A (sample 0x7FFF#16 0x0000#16) = .next t ∧ decide (t.status = memFault 0x7FFF#16 .write) = true) ∧
    (∃ t, exec .push_BC (sample 0x0000#16 0xFEA1#16) = .next t ∧ decide (t.status = memFault 0xFEA0#16 .write) = true) ∧
    (∃ t, exec (.call_nn 0xC000#16) (sample 0x0000#16 0x8001#16) = .next t ∧
      decide (t.status = memFault 0x7FFF#16 .write) = true) ∧
    (∃ t, exec (.ld_atnn_SP 0xFFFF#16) (sample 0x0000#16 0x1234#16) = .next t ∧
      decide (t.status = memFault 0x0000#16 .write) = true) ∧
    (∃ t, exec .pop_BC (sample 0x0000#16 0xFE9F#16) = .next t ∧ decide (t.status = memFault 0xFEA0#16 .read) = true) ∧
    (sample 0x0000#16 0x0000#16).status = .running ∧ Instr.push_BC.WellFormed :=
  ⟨exists_next (by decide), exists_next (by decide), exists_next (by decide), exists_next (by decide),
    exists_next (by decide), rfl, by decide⟩

theorem witness_OnlyControlTransfersMovePc :
    Instr.push_BC.WellFormed ∧ ¬Instr.transfersControl .push_BC ∧
      ∃ t, exec .push_BC (sample 0x0000#16 0xD000#16) = .next t ∧ decide (t.sp = 0xCFFE#16) = true := by
  refine ⟨by decide, ?_, exists_next (by decide)⟩
  rintro (⟨c, e, h⟩ | ⟨nn, h⟩ | h)
  · cases c <;> cases h
  · cases h
  · cases h

theorem witness_OnlyStackInstructionsMoveSp :
    ¬Instr.writesSp .inc_A ∧ ∃ t, exec .inc_A (sample 0x0000#16 0xD000#16) = .next t ∧ decide (t.a = 0x3D#8) = true := by
  refine ⟨?_, exists_next (by decide)⟩
  rintro (⟨nn, h⟩ | h | h | h | ⟨p, h⟩ | ⟨p, h⟩ | ⟨nn, h⟩ | h) <;> first | cases h | (cases p <;> cases h)

theorem witness_OnlyStoresWriteMemory :
    Instr.pop_BC.WellFormed ∧ ¬Instr.storesToMemory .pop_BC ∧
      ∃ t, exec .pop_BC (sample 0x0000#16 0xC000#16) = .next t ∧ decide (t.b = 0xA5#8) = true := by
  refine ⟨by decide, ?_, exists_next (by decide)⟩
  rintro (⟨g, h⟩ | ⟨n, h⟩ | ⟨m, h⟩ | ⟨k, h⟩ | ⟨nn, h⟩ | h | h | ⟨k, h⟩ | ⟨p, h⟩ | ⟨nn, h⟩) <;>
    first | cases h | (cases g <;> cases h) | (cases m <;> cases h) | (cases k <;> cases h) | (cases p <;> cases h)

theorem not_writesFlags_pop_BC : ¬Instr.writesFlags .pop_BC := by
  rintro (⟨o, h⟩ | ⟨o, h⟩ | ⟨op, o, h⟩ | ⟨p, h⟩ | ⟨k, h⟩ | ⟨k, o, h⟩ | ⟨b, o, h⟩ | h)
  · rcases o with g | _ <;> first | cases h | (cases g <;> cases h)
  · rcases o with g | _ <;> first | cases h | (cases g <;> cases h)
  · cases op <;> rcases o with g | _ | n <;> first | cases h | (cases g <;> cases h)
  · cases p <;> cases h
  · cases k <;> cases h
  · cases k <;> rcases o with g | _ <;> first | cases h | (cases g <;> cases h)
  · fin_cases b <;> rcases o with g | _ <;> first | cases h | (cases g <;> cases h)
  · cases h

theorem witness_OnlyDocumentedInstructionsWriteFlags :
    Instr.pop_BC.WellFormed ∧ ¬Instr.writesFlags .pop_BC ∧
      ∃ t, exec .pop_BC (sample 0x0000#16 0xC000#16) = .next t ∧ decide (t.b = 0xA5#8) = true :=
  ⟨by decide, not_writesFlags_pop_BC, exists_next (by decide)⟩

theorem witness_FlagsAreReadByTheListedInstructionsOnly :
    Instr.inc_A.WellFormed ∧ ¬Instr.readsFlags .inc_A ∧
      ∃ t, exec .inc_A (sample 0x0000#16 0xD000#16) = .next t ∧ decide (t.f = 0x10#8) = true := by
  refine ⟨by decide, ?_, exists_next (by decide)⟩
  rintro (⟨e, h⟩ | ⟨e, h⟩ | ⟨o, h⟩ | h | h | ⟨o, h⟩ | ⟨o, h⟩ | h)
  · cases h
  · cases h
  · rcases o with g | _ | n <;> first | cases h | (cases g <;> cases h)
  · cases h
  · cases h
  · rcases o with g | _ <;> first | cases h | (cases g <;> cases h)
  · rcases o with g | _ <;> first | cases h | (cases g <;> cases h)
  · cases h

/-- A three-byte instruction whose last byte is the last before the Unused region, and one across the end of the address
space. -/
theorem witness_StepRunsTheDecodedInstruction :
    (placed 0xFE9D#16 [0x21#8, 0x00#8, 0xC0#8]).status = .running ∧
    decode (placed 0xFE9D#16 [0x21#8, 0x00#8, 0xC0#8]).codeAt = .instr (.ld_HL_nn 0xC000#16) [] ∧
    (placed 0xFFFF#16 [0x3E#8, 0x05#8]).status = .running ∧
    decode (placed 0xFFFF#16 [0x3E#8, 0x05#8]).codeAt = .instr (.ld_A_n 0x05#8) [0x00#8] ∧
    decode (placed 0x0100#16 [0xCB#8, 0x7E#8]).codeAt = .instr .bit_7_atHL [0x00#8] := by decide

theorem witness_UnimplementedOpcodeEndsTheRun :
    (placed 0xFE9F#16 [0x76#8]).status = .running ∧
    decode (placed 0xFE9F#16 [0x76#8]).codeAt = .unimplementedOpcode 0x76#8 false ∧
    decode (placed 0xFE9E#16 [0xCB#8, 0x30#8]).codeAt = .unimplementedOpcode 0x30#8 true := by decide

theorem witness_UnimplementedOpcodeEndsTheRun_exec :
    Instr.ld_atHL_A.WellFormed ∧ (sample 0x7FFF#16 0x0000#16).status = .running ∧
      ∃ t, exec .ld_atHL_A (sample 0x7FFF#16 0x0000#16) = .next t ∧ decide (t.status = memFault 0x7FFF#16 .write) = true :=
  ⟨by decide, rfl, exists_next (by decide)⟩

/-- No byte at `pc`, no operand byte, no second byte after the escape, no high byte of a word. -/
theorem witness_AnUnreadableInstructionByteFaults :
    (State.reset.setPc 0xFEA0#16).status = .running ∧ decode (State.reset.setPc 0xFEA0#16).codeAt = .truncated ∧
    decode (placed 0xFE9F#16 [0x3E#8]).codeAt = .truncated ∧ decode (placed 0xFE9F#16 [0xCB#8]).codeAt = .truncated ∧
    decode (placed 0xFE9F#16 [0x21#8]).codeAt = .truncated ∧ decode (placed 0xFE9E#16 [0x21#8]).codeAt = .truncated := by decide

theorem witness_AFaultedMachineNeverStepsAgain :
    (State.reset.setStatus (opFault 0x76#8 false)).status = .faulted (.unimplementedOpcode 0x76#8 false) := by decide

theorem witness_TheEscapeRunsTheExtendedTable :
    ((placed 0x0101#16 [0x11#8]).peek 0x0101#16 = some 0x11#8 ∧ decode [0xCB#8, 0x11#8] = .instr .rl_C []) ∧
    ((placed 0x0101#16 [0x30#8]).peek 0x0101#16 = some 0x30#8 ∧ decode [0xCB#8, 0x30#8] = .unimplementedOpcode 0x30#8 true) ∧
    InUnused (State.reset.setPc 0xFEA0#16).pc := by decide

/-- The stack pointers of each clause: a push that fits, one that wraps, a low byte and a high byte that cannot be written, and
pops whose bytes can and cannot be read. Also of PushPair, PopPair, CallPushesTheReturnAddress, ReturnPopsIntoPc and
CallThenReturnComesBack. -/
theorem witness_StackPrimitivesArePushAndPop :
    (CanWrite ((sample 0x0000#16 0x8002#16).sp - 2#16) ∧ CanWrite ((sample 0x0000#16 0x8002#16).sp - 1#16)) ∧
    (CanWrite ((sample 0x0000#16 0x0000#16).sp - 2#16) ∧ CanWrite ((sample 0x0000#16 0x0000#16).sp - 1#16)) ∧
    ¬CanWrite ((sample 0x0000#16 0x8001#16).sp - 2#16) ∧ ¬CanWrite ((sample 0x0000#16 0xFEA2#16).sp - 2#16) ∧
    (CanWrite ((sample 0x0000#16 0x0001#16).sp - 2#16) ∧ ¬CanWrite ((sample 0x0000#16 0x0001#16).sp - 1#16)) ∧
    (CanWrite ((sample 0x0000#16 0xFEA1#16).sp - 2#16) ∧ ¬CanWrite ((sample 0x0000#16 0xFEA1#16).sp - 1#16)) ∧
    ((sample 0x0000#16 0xC000#16).peek 0xC000#16 = some 0x5A#8 ∧
      (sample 0x0000#16 0xC000#16).peek (0xC000#16 + 1#16) = some 0xA5#8) ∧
    InUnused (sample 0x0000#16 0xFEFF#16).sp ∧
    (¬InUnused (sample 0x0000#16 0xFE9F#16).sp ∧ InUnused ((sample 0x0000#16 0xFE9F#16).sp + 1#16)) := by decide

theorem witness_PushPair :
    (CanWrite ((sample 0x0000#16 0x8002#16).sp - 2#16) ∧ CanWrite ((sample 0x0000#16 0x8002#16).sp - 1#16)) ∧
    ¬CanWrite ((sample 0x0000#16 0x8001#16).sp - 2#16) ∧
    (CanWrite ((sample 0x0000#16 0x0001#16).sp - 2#16) ∧ ¬CanWrite ((sample 0x0000#16 0x0001#16).sp - 1#16)) := by decide

theorem witness_PopPair :
    ((sample 0x0000#16 0xC000#16).peek 0xC000#16 = some 0x5A#8 ∧
      (sample 0x0000#16 0xC000#16).peek (0xC000#16 + 1#16) = some 0xA5#8) ∧
    InUnused (sample 0x0000#16 0xFEA0#16).sp ∧
    (¬InUnused (sample 0x0000#16 0xFE9F#16).sp ∧ InUnused ((sample 0x0000#16 0xFE9F#16).sp + 1#16)) := by decide

theorem witness_CallPushesTheReturnAddress :
    (CanWrite ((sample 0x0000#16 0x0000#16).sp - 2#16) ∧ CanWrite ((sample 0x0000#16 0x0000#16).sp - 1#16)) ∧
    ¬CanWrite ((sample 0x0000#16 0xFF01#16).sp - 2#16) ∧
    (CanWrite ((sample 0x0000#16 0xFEA1#16).sp - 2#16) ∧ ¬CanWrite ((sample 0x0000#16 0xFEA1#16).sp - 1#16)) := by decide

theorem witness_ReturnPopsIntoPc :
    ((sample 0x0000#16 0xC000#16).peek 0xC000#16 = some 0x5A#8 ∧
      (sample 0x0000#16 0xC000#16).peek (0xC000#16 + 1#16) = some 0xA5#8) ∧
    InUnused (sample 0x0000#16 0xFEFF#16).sp ∧
    (¬InUnused (sample 0x0000#16 0xFE9F#16).sp ∧ InUnused ((sample 0x0000#16 0xFE9F#16).sp + 1#16)) := by decide

theorem witness_CallThenReturnComesBack :
    CanWrite ((sample 0x0000#16 0xFFFE#16).sp - 2#16) ∧ CanWrite ((sample 0x0000#16 0xFFFE#16).sp - 1#16) := by decide

/-- Each form of the statement at a readable address, and the Unused region's ends. -/
theorem witness_LoadFromMemory :
    (0xC000#16 = wordOf (sample 0xC000#16 0x0000#16).h (sample 0xC000#16 0x0000#16).l ∧
      (sample 0xC000#16 0x0000#16).peek 0xC000#16 = some 0x5A#8) ∧
    (0x1234#16 = wordOf (sample 0x0000#16 0x0000#16).b (sample 0x0000#16 0x0000#16).c ∧
      (sample 0x0000#16 0x0000#16).peek 0x1234#16 = some 0x00#8) ∧
    (0xFF34#16 = BitVec.ofNat 16 (0xFF00 + (sample 0x0000#16 0x0000#16).c.toNat) ∧ ¬InUnused 0xFF34#16) ∧
    (0xFFFF#16 = BitVec.ofNat 16 (0xFF00 + (0xFF#8).toNat) ∧ ¬InUnused 0xFFFF#16) ∧
    (0xFEA0#16 = wordOf (sample 0xFEA0#16 0x0000#16).h (sample 0xFEA0#16 0x0000#16).l ∧ InUnused 0xFEA0#16) ∧
    InUnused 0xFEFF#16 := by decide

theorem witness_LoadAccumulatorSteppingHL :
    (sample 0xC000#16 0x0000#16).peek (sample 0xC000#16 0x0000#16).hl = some 0x5A#8 ∧
    (sample 0xFFFF#16 0x0000#16).peek (sample 0xFFFF#16 0x0000#16).hl = some 0x00#8 ∧
    InUnused (sample 0xFEA0#16 0x0000#16).hl := by decide

theorem witness_StoreToMemory :
    (0x8000#16 = wordOf (sample 0x8000#16 0x0000#16).h (sample 0x8000#16 0x0000#16).l ∧ CanWrite 0x8000#16) ∧
    (0x1234#16 = wordOf (sample 0x0000#16 0x0000#16).b (sample 0x0000#16 0x0000#16).c ∧ InRom 0x1234#16) ∧
    (0xFEA0#16 = wordOf (sample 0xFEA0#16 0x0000#16).h (sample 0xFEA0#16 0x0000#16).l ∧ InUnused 0xFEA0#16) ∧
    (0xFF00#16 = BitVec.ofNat 16 (0xFF00 + (0x00#8).toNat) ∧ CanWrite 0xFF00#16) ∧
    (0xFF34#16 = BitVec.ofNat 16 (0xFF00 + (sample 0x0000#16 0x0000#16).c.toNat) ∧ CanWrite 0xFF34#16) := by decide

theorem witness_StoreAccumulatorSteppingHL :
    CanWrite (sample 0x8000#16 0x0000#16).hl ∧ CanWrite (sample 0xFFFF#16 0x0000#16).hl ∧
    ¬CanWrite (sample 0x7FFF#16 0x0000#16).hl ∧ ¬CanWrite (sample 0xFEFF#16 0x0000#16).hl := by decide

theorem witness_StoreStackPointer :
    (CanWrite 0x8000#16 ∧ CanWrite (0x8000#16 + 1#16)) ∧ (CanWrite 0xFFFE#16 ∧ CanWrite (0xFFFE#16 + 1#16)) ∧
    ¬CanWrite 0x7FFF#16 ∧ ¬CanWrite 0xFEFF#16 ∧ (CanWrite 0xFE9F#16 ∧ ¬CanWrite (0xFE9F#16 + 1#16)) ∧
    (CanWrite 0xFFFF#16 ∧ ¬CanWrite (0xFFFF#16 + 1#16)) := by decide

/-- A register and a byte of memory that hold a value and can be written. -/
theorem witness_IncrementByte :
    LocHolds (sample 0xC000#16 0x0000#16) (.r .a) 0x3C#8 ∧ LocCanWrite (sample 0xC000#16 0x0000#16) (.r .a) ∧
    LocHolds (sample 0xC000#16 0x0000#16) .atHL 0x5A#8 ∧ LocCanWrite (sample 0xC000#16 0x0000#16) .atHL :=
  ⟨rfl, trivial, show (sample 0xC000#16 0x0000#16).peek 0xC000#16 = some 0x5A#8 by decide, show CanWrite 0xC000#16 by decide⟩

theorem witness_DecrementByte :
    LocHolds (sample 0xC000#16 0x0000#16) (.r .b) 0x12#8 ∧ LocCanWrite (sample 0xC000#16 0x0000#16) (.r .b) ∧
    LocHolds (sample 0xFFFF#16 0x0000#16) .atHL 0x00#8 ∧ LocCanWrite (sample 0xFFFF#16 0x0000#16) .atHL :=
  ⟨rfl, trivial, show (sample 0xFFFF#16 0x0000#16).peek 0xFFFF#16 = some 0x00#8 by decide, show CanWrite 0xFFFF#16 by decide⟩

/-- A register, a byte of memory and an immediate. -/
theorem witness_AddToAccumulator :
    SrcHolds (sample 0xC000#16 0x0000#16) (.r .b) 0x12#8 ∧ SrcHolds (sample 0xC000#16 0x0000#16) .atHL 0x5A#8 ∧
    SrcHolds (sample 0xC000#16 0x0000#16) (.n 0xFF#8) 0xFF#8 :=
  ⟨rfl, show (sample 0xC000#16 0x0000#16).peek 0xC000#16 = some 0x5A#8 by decide, rfl⟩

theorem witness_SubtractFromAccumulator : SrcHolds (sample 0xC001#16 0x0000#16) .atHL 0xA5#8 ∧
    SrcHolds (sample 0xC001#16 0x0000#16) (.r .a) 0x3C#8 ∧ SrcHolds (sample 0xC001#16 0x0000#16) (.n 0x00#8) 0x00#8 :=
  ⟨show (sample 0xC001#16 0x0000#16).peek 0xC001#16 = some 0xA5#8 by decide, rfl, rfl⟩

/-- With the carry set, and an operand whose low nibble is 15. -/
theorem witness_SubtractWithCarryFromAccumulator :
    SrcHolds (sample 0xC000#16 0x0000#16) (.n 0x0F#8) 0x0F#8 ∧ (sample 0xC000#16 0x0000#16).flagC = true ∧
    (0x0F#8).toNat % 16 = 15 ∧ SrcHolds (sample 0xC000#16 0x0000#16) (.r .c) 0x34#8 :=
  ⟨rfl, rfl, rfl, rfl⟩

theorem witness_ExclusiveOrWithAccumulator : SrcHolds (sample 0xC000#16 0x0000#16) (.r .a) 0x3C#8 ∧
    SrcHolds (sample 0xC000#16 0x0000#16) (.n 0x3C#8) 0x3C#8 := ⟨rfl, rfl⟩

theorem witness_CompareWithAccumulator : SrcHolds (sample 0xC000#16 0x0000#16) (.n 0x40#8) 0x40#8 ∧
    SrcHolds (sample 0xC000#16 0x0000#16) (.r .a) 0x3C#8 := ⟨rfl, rfl⟩

theorem witness_MemoryOperandsTrap :
    InUnused (sample 0xFEA0#16 0x0000#16).hl ∧ InUnused (sample 0xFEFF#16 0x0000#16).hl ∧
    InRom (sample 0x0000#16 0x0000#16).hl ∧ InRom (sample 0x7FFF#16 0x0000#16).hl ∧
    Instr.alu .sbc .atHL = .sbc_A_atHL ∧ Instr.bitLoc 3 .atHL = .bit_3_atHL ∧ Instr.rotLoc .rr .atHL = .rr_atHL := by decide

theorem witness_SimpleRotates :
    LocHolds (sample 0xC000#16 0x0000#16) (.r .a) 0x3C#8 ∧ LocCanWrite (sample 0xC000#16 0x0000#16) (.r .a) ∧
    Instr.rotA .rlc = .rlca ∧ Instr.rotLoc .rrc .atHL = .rrc_atHL ∧
    LocHolds (sample 0xC000#16 0x0000#16) .atHL 0x5A#8 ∧ LocCanWrite (sample 0xC000#16 0x0000#16) .atHL :=
  ⟨rfl, trivial, rfl, rfl, show (sample 0xC000#16 0x0000#16).peek 0xC000#16 = some 0x5A#8 by decide,
    show CanWrite 0xC000#16 by decide⟩

theorem witness_RotatesThroughCarry :
    LocHolds (sample 0xC000#16 0x0000#16) (.r .a) 0x3C#8 ∧ LocCanWrite (sample 0xC000#16 0x0000#16) (.r .a) ∧
    Instr.rotA .rl = .rla ∧ Instr.rotLoc .rr .atHL = .rr_atHL ∧
    LocHolds (sample 0xC000#16 0x0000#16) .atHL 0x5A#8 ∧ LocCanWrite (sample 0xC000#16 0x0000#16) .atHL :=
  ⟨rfl, trivial, rfl, rfl, show (sample 0xC000#16 0x0000#16).peek 0xC000#16 = some 0x5A#8 by decide,
    show CanWrite 0xC000#16 by decide⟩

/-- A byte of ROM can be tested. -/
theorem witness_TestBit :
    LocHolds (sample 0x0100#16 0x0000#16) .atHL 0x00#8 ∧ LocHolds (sample 0x0100#16 0x0000#16) (.r .l) 0x00#8 :=
  ⟨show (sample 0x0100#16 0x0000#16).peek 0x0100#16 = some 0x00#8 by decide, rfl⟩

end Sys2Proof.Tests
end

section
/-! PROOFS. The region table against the decoder (20_memory.md R51, R52), and Echo RAM's own store (R65). -/

namespace Sys2Proof.Machine

/-! ## Which byte accesses succeed, in terms of the address (R57 to R61) -/

theorem route_isSome_iff {a : Word} : (route a).isSome = true ↔ ¬InUnused a := by
  rw [← route_eq_none, Option.isSome_iff_ne_none]

theorem exists_readByte_ok_iff {s : State} {a : Word} : (∃ w t, readByte a s = .ok w t) ↔ ¬InUnused a := by
  constructor
  · rintro ⟨w, t, h⟩ hu
    rw [readByte_unused hu] at h
    cases h
  · intro h
    obtain ⟨w, hw⟩ := peek_some_of_not_unused (s := s) h
    exact ⟨w, s, readByte_ok hw⟩

theorem exists_writeByte_ok_iff {s : State} {a : Word} {v : Byte} : (∃ t, writeByte a v s = .ok () t) ↔ CanWrite a := by
  constructor
  · rintro ⟨t, h⟩
    by_contra hc
    rw [writeByte_error v hc] at h
    cases h
  · exact fun h => ⟨s.poke a v, writeByte_poke v h⟩

/-! ## The rows of the region table (R51) -/

/-- The address is in the row's range. -/
abbrev Region.Contains (r : Region) (a : Word) : Prop := r.first ≤ a.toNat ∧ a.toNat ≤ r.last

/-- The rows' ranges leave no address out. -/
theorem exists_region_contains (a : Word) : ∃ r ∈ regionTable, r.Contains a := by
  have hlt := a.isLt
  simp only [regionTable, List.mem_cons, List.not_mem_nil, or_false, exists_eq_or_imp, exists_eq_left, Region.Contains]
  omega

/-- No two rows' ranges overlap. -/
theorem regionTable_disjoint :
    ∀ r ∈ regionTable, ∀ r' ∈ regionTable, r = r' ∨ r.last < r'.first ∨ r'.last < r.first := by decide

theorem region_unique {r r' : Region} {a : Word} (h : r ∈ regionTable) (h' : r' ∈ regionTable) (ha : r.Contains a)
    (ha' : r'.Contains a) : r' = r := by
  obtain heq | hlt | hlt := regionTable_disjoint r' h' r h
  · exact heq
  · omega
  · omega

/-- The row that contains an address is the whole of what a search of the table for the address finds. -/
theorem filter_contains_eq_singleton {r : Region} {a : Word} (h : r ∈ regionTable) (ha : r.Contains a) :
    (regionTable.filter fun r' => decide (r'.Contains a)) = [r] := by
  have hnodup : regionTable.Nodup := by decide
  rw [← List.perm_singleton, List.perm_ext_iff_of_nodup (hnodup.filter _) (List.nodup_singleton r)]
  intro r'
  simp only [List.mem_filter, decide_eq_true_eq, List.mem_singleton]
  constructor
  · exact fun ⟨h', ha'⟩ => region_unique h h' ha ha'
  · rintro rfl
    exact ⟨h, ha⟩

/-- A row forbids reads exactly if its range is within Unused; otherwise its range is clear of Unused. -/
theorem regionTable_readable : ∀ r ∈ regionTable,
    if r.readable then r.last < 0xFEA0 ∨ 0xFEFF < r.first else 0xFEA0 ≤ r.first ∧ r.last ≤ 0xFEFF := by decide

/-- A row that allows writes allows reads, and of the rows that allow reads it is ROM's that forbids writes. -/
theorem regionTable_writable : ∀ r ∈ regionTable,
    r.writable = (r.readable && decide (0x7FFF < r.first)) ∧ (r.first ≤ 0x7FFF → r.last ≤ 0x7FFF) := by decide

theorem Region.readable_iff {r : Region} {a : Word} (h : r ∈ regionTable) (ha : r.Contains a) :
    r.readable = true ↔ ¬InUnused a := by
  have hr := regionTable_readable r h
  split at hr
  case isTrue hread => exact iff_of_true hread (by omega)
  case isFalse hread => exact iff_of_false hread (by omega)

theorem Region.writable_iff {r : Region} {a : Word} (h : r ∈ regionTable) (ha : r.Contains a) :
    r.writable = true ↔ CanWrite a := by
  obtain ⟨hw, hrom⟩ := regionTable_writable r h
  have hfirst : 0x7FFF < r.first ↔ ¬InRom a := by omega
  rw [hw, Bool.and_eq_true, decide_eq_true_eq, Region.readable_iff h ha, hfirst, and_comm]

/-! ## The decoder at an address of a given store (R53) -/

/-- The converse of `route_some`: an address at an index of a store is routed there. -/
theorem route_eq_some_of_toNat {a : Word} {st : StoreId} {i : Nat} (h : a.toNat = Store.base st + i)
    (hi : i < Store.size st) : route a = some (st, i) := by
  unfold route
  cases st <;> simp only [Store.base, Store.size] at h hi
  case ie =>
    obtain rfl : i = 0 := by omega
    simp (disch := omega) only [if_neg]
  all_goals simp (disch := omega) only [if_pos, if_neg, h, Nat.zero_add, Nat.add_sub_cancel_left]

/-- A byte written where a write succeeds is read back, and any other address reads as before (R58). -/
theorem writeByte_reads_back {a b : Word} (s : State) (v : Byte) (ha : CanWrite a) (hb : b ≠ a) :
    ∃ t, writeByte a v s = .ok () t ∧ t.peek a = some v ∧ t.peek b = s.peek b :=
  ⟨s.poke a v, writeByte_poke v ha, State.peek_poke_self v ha.2, State.peek_poke_ne v hb⟩

/-! ## The obligations -/

/-- Settles O6: the row that contains the address is the only one the table has for it, and both its columns and the two
accesses come down to the address being outside Unused, for a write outside ROM too. -/
theorem everyAddressDecodesToOneRegion : Obligations.EveryAddressDecodesToOneRegion := by
  refine ⟨fun a => ?_, by decide, by decide⟩
  obtain ⟨r, hr, ha⟩ := exists_region_contains a
  have hread := Region.readable_iff hr ha
  have hwrite := Region.writable_iff hr ha
  exact ⟨r, filter_contains_eq_singleton hr ha, Bool.eq_iff_iff.mpr (route_isSome_iff.trans hread.symm),
    Bool.eq_iff_iff.mpr (writable_iff.trans hwrite.symm), fun s v =>
      ⟨exists_readByte_ok_iff.trans hread.symm, exists_writeByte_ok_iff.trans hwrite.symm⟩⟩

/-- Settles O10: the two addresses differ, both can be written, and a write changes no address but its own. -/
theorem echoRamIsNotAMirror : Obligations.EchoRamIsNotAMirror := by
  refine ⟨rfl, fun s k v hk => ?_⟩
  have hwork : (BitVec.ofNat 16 (0xC000 + k)).toNat = 0xC000 + k := by
    rw [BitVec.toNat_ofNat]; omega
  have hecho : (BitVec.ofNat 16 (0xE000 + k)).toNat = 0xE000 + k := by
    rw [BitVec.toNat_ofNat]; omega
  have hne : BitVec.ofNat 16 (0xE000 + k) ≠ BitVec.ofNat 16 (0xC000 + k) := by
    rw [BitVec.toNat_ne]; omega
  refine ⟨route_eq_some_of_toNat hecho hk, fun i hi => ?_, writeByte_reads_back s v (by omega) hne,
    writeByte_reads_back s v (by omega) hne.symm⟩
  have hbase : _ = 0xE000 + i := (route_some hi).1
  omega

end Sys2Proof.Machine
end

section
/-! PROOFS. Every step answers a next state (40_step_cycle.md R122): no arm of `exec` stops or refuses at the host's
interface, because each instruction's meaning is a part of a step run to its end, which takes the faults it raises. -/

namespace Sys2Proof.Machine

/-- The end of a part of a step is a next state, whether the part ends with a value or with a fault (R263). -/
theorem exists_complete_eq_next (m : Exec Unit) (s : State) : ∃ t, complete m s = .next t := by
  cases h : m s with
  | ok _ t => exact ⟨t, complete_ok h⟩
  | error f t => exact ⟨t.setStatus (.faulted f), complete_error h⟩

/-- Each instruction has one part of a step as its meaning in every state. -/
theorem exists_exec_eq_complete (i : Instr) : ∃ m, ∀ s, exec i s = complete m s := by
  cases i using Instr.form_cases with
  | on_ldRR dst g => exact ⟨_, exec_ldRR dst g⟩
  | on_ldRAtHL g => exact ⟨_, exec_ldRAtHL g⟩
  | on_ldAtHLR g => exact ⟨_, exec_ldAtHLR g⟩
  | on_ldRN g n => exact ⟨_, exec_ldRN g n⟩
  | on_ldAMem m => exact ⟨_, exec_ldAMem m⟩
  | on_ldMemA m => exact ⟨_, exec_ldMemA m⟩
  | on_ldAStep k => exact ⟨_, exec_ldAStep k⟩
  | on_ldStepA k => exact ⟨_, exec_ldStepA k⟩
  | on_ldRpNN p nn => exact ⟨_, exec_ldRpNN p nn⟩
  | on_incLoc o => exact ⟨_, exec_incLoc o⟩
  | on_decLoc o => exact ⟨_, exec_decLoc o⟩
  | on_addA o => exact ⟨_, exec_addA o⟩
  | on_subA o => exact ⟨_, exec_subA o⟩
  | on_sbcA o => exact ⟨_, exec_sbcA o⟩
  | on_xorA o => exact ⟨_, exec_xorA o⟩
  | on_cpA o => exact ⟨_, exec_cpA o⟩
  | on_addHL p => exact ⟨_, exec_addHL p⟩
  | on_incRp p => exact ⟨_, exec_incRp p⟩
  | on_decRp p => exact ⟨_, exec_decRp p⟩
  | on_rotA k => exact ⟨_, exec_rotA k⟩
  | on_rotLoc k o => exact ⟨_, exec_rotLoc k o⟩
  | on_bitLoc b o => exact ⟨_, exec_bitLoc b o⟩
  | on_push p => exact ⟨_, exec_push p⟩
  | on_pop p => exact ⟨_, exec_pop p⟩
  | on_jr c e => exact ⟨_, exec_jr c e⟩
  | on_ld_atnn_SP nn => exact ⟨_, exec_ld_atnn_SP nn⟩
  | on_ld_atHL_n n => exact ⟨_, exec_ld_atHL_n n⟩
  | on_ld_SP_HL => exact ⟨_, exec_ld_SP_HL⟩
  | on_nop => exact ⟨_, exec_nop⟩
  | on_ret => exact ⟨_, exec_ret⟩
  | on_call_nn nn => exact ⟨_, exec_call_nn nn⟩
  | on_escape => exact ⟨_, exec_escape⟩

/-- No instruction stops or is refused at the host's interface, in any state. -/
theorem exists_exec_eq_next (i : Instr) (s : State) : ∃ t, exec i s = .next t := by
  obtain ⟨m, hm⟩ := exists_exec_eq_complete i
  exact hm s ▸ exists_complete_eq_next m s

/-- A running machine's step answers a next state: it executes what it fetched, or takes the fault of the fetch. -/
theorem exists_stepRunning_eq_next (s : State) : ∃ t, stepRunning s = .next t := by
  unfold stepRunning
  cases fetchInstr s with
  | ok i t => exact exists_exec_eq_next i t
  | error f t => exact ⟨t.setStatus (.faulted f), rfl⟩

theorem step_of_running {s : State} (h : s.status = .running) : step s = stepRunning s := by
  simp only [step, h]

theorem Status.running_or_faulted (x : Status) : x = .running ∨ ∃ f, x = .faulted f := by
  cases x with
  | running => exact .inl rfl
  | faulted f => exact .inr ⟨f, rfl⟩

/-- Settles O18: the step of a running machine answers a next state, and `step` is a function, so it answers no other. -/
theorem everyStepRequestHasAnOutcome : Obligations.EveryStepRequestHasAnOutcome := by
  intro s hs
  obtain ⟨t, ht⟩ := exists_stepRunning_eq_next s
  have hstep : step s = .next t := (step_of_running hs).trans ht
  exact ⟨t, hstep, t.status.running_or_faulted, fun u hu => Host.Outcome.next.inj (hu.symm.trans hstep)⟩

end Sys2Proof.Machine
end

section
/-! PROOFS. The 16-bit helpers (43_alu16.md R210, R211) and BitTest (44_rotate_bit.md R224), on integers. -/

namespace Sys2Proof.Machine

/-! ## The 16-bit helpers -/

theorem add16_result_toNat (a b : Word) (f : Byte) : (add16 a b f).1.toNat = (a.toNat + b.toNat) % 65536 :=
  BitVec.toNat_ofNat ..

/-- The mask `0xFFF` of R210 keeps the low twelve bits, which is what a carry out of bit 11 comes from. -/
theorem add16_flags (a b : Word) (f : Byte) :
    (add16 a b f).2 = flags (f.getLsbD 7) false (decide (a.toNat % 4096 + b.toNat % 4096 > 4095))
      (decide (a.toNat + b.toNat > 65535)) := by
  have hmask (x : Nat) : x &&& 0xFFF = x % 4096 := Nat.and_two_pow_sub_one_eq_mod x 12
  simp only [add16, zOf, hmask]

theorem increment16_toNat (v : Word) : (increment16 v).toNat = (v.toNat + 1) % 65536 :=
  BitVec.toNat_add v 1

/-- The wrap of R211: stepping down is adding 65535 modulo 65536. -/
theorem decrement16_toNat (v : Word) : (decrement16 v).toNat = (v.toNat + 65535) % 65536 := by
  have hsub : (v - 1).toNat = (65536 - 1 + v.toNat) % 65536 := BitVec.toNat_sub v 1
  rw [decrement16, hsub, Nat.add_comm]

/-! ## BitTest -/

/-- A bit of a byte is clear exactly when that digit of its value is 0. -/
theorem not_getLsbD_eq_decide (v : Byte) (i : Nat) : (!v.getLsbD i) = decide (v.toNat / 2 ^ i % 2 = 0) := by
  have hbit : v.getLsbD i = decide (v.toNat / 2 ^ i % 2 = 1) := Nat.testBit_eq_decide_div_mod_eq
  rw [hbit, ← decide_not, decide_eq_decide]
  exact Nat.mod_two_ne_one

theorem bitTest_eq_flags (n : Fin 8) (v f : Byte) :
    bitTest n v f = flags (decide (v.toNat / 2 ^ n.val % 2 = 0)) false true (f.getLsbD 4) := by
  rw [bitTest, cOf, not_getLsbD_eq_decide]

/-! ## The obligation -/

/-- Settles O32, helper by helper: each result and each flag byte as R210, R211 and R224 give it. -/
theorem sixteenBitHelpersAndBitTest : Obligations.SixteenBitHelpersAndBitTest :=
  ⟨fun a b f => ⟨add16_result_toNat a b f, add16_flags a b f, increment16_toNat a, decrement16_toNat a⟩, bitTest_eq_flags⟩

end Sys2Proof.Machine
end

section
/-! PROOFS. The decoder and the encoder (30_encoding.md R91 to R97): decoding undoes encoding by the forms, encoding undoes
decoding by the rows of the two tables. -/

namespace Sys2Proof

/-! ## Decoding after encoding -/

/-- Settles O1, form by form: within a form the operands pick the opcode byte, and the decoder looks that byte up. -/
theorem decodeAfterEncodeGivesTheInstruction : Obligations.DecodeAfterEncodeGivesTheInstruction := by
  intro i rest hwf
  cases i using Instr.form_cases with
  | on_ldRR dst g => cases dst <;> cases g <;> rfl
  | on_ldRAtHL g => cases g <;> rfl
  | on_ldAtHLR g => cases g <;> rfl
  | on_ldRN g n => cases g <;> rfl
  | on_ldAMem m =>
    cases m with
    | atNN nn => exact decode_word rfl nn rest
    | _ => rfl
  | on_ldMemA m =>
    cases m with
    | atNN nn => exact decode_word rfl nn rest
    | _ => rfl
  | on_ldAStep k => cases k <;> rfl
  | on_ldStepA k => cases k <;> rfl
  | on_ldRpNN p nn => cases p <;> exact decode_word rfl nn rest
  | on_incLoc o => rcases o with (_ | _) | _ <;> rfl
  | on_decLoc o => rcases o with (_ | _) | _ <;> rfl
  | on_addA o => rcases o with (_ | _) | _ | _ <;> rfl
  | on_subA o => rcases o with (_ | _) | _ | _ <;> rfl
  | on_sbcA o => rcases o with (_ | _) | _ | _ <;> rfl
  | on_xorA o => rcases o with (_ | _) | _ | _ <;> rfl
  | on_cpA o => rcases o with (_ | _) | _ | _ <;> rfl
  | on_addHL p => cases p <;> rfl
  | on_incRp p => cases p <;> rfl
  | on_decRp p => cases p <;> rfl
  | on_rotA k => cases k <;> rfl
  | on_rotLoc k o => cases k <;> rcases o with (_ | _) | _ <;> rfl
  | on_bitLoc b o => fin_cases b <;> rcases o with (_ | _) | _ <;> rfl
  | on_push p => cases p <;> rfl
  | on_pop p => cases p <;> rfl
  | on_jr c e => cases c <;> rfl
  | on_ld_atnn_SP nn => exact decode_word rfl nn rest
  | on_ld_atHL_n n => rfl
  | on_ld_SP_HL => rfl
  | on_nop => rfl
  | on_ret => rfl
  | on_call_nn nn => exact decode_word rfl nn rest
  | on_escape => cases hwf

/-! ## The tables against the encoder -/

/-- The instruction a form becomes with a byte operand `n` and a word operand `nn`, of which it uses what its format has. -/
def Form.instr (n : Byte) (nn : Word) : Form → Instr
  | .op i => i
  | .opN mk => mk n
  | .opE mk => mk n
  | .opNN mk => mk nn

/-- The bytes of those operands, in address order (R91). -/
def Form.operandBytes (n : Byte) (nn : Word) : Form → List Byte
  | .op _ => []
  | .opN _ => [n]
  | .opE _ => [n]
  | .opNN _ => [loByte nn, hiByte nn]

/-- Whatever its operands, the form becomes a well-formed instruction whose bytes are `opcode` and the operands' bytes. -/
def Form.EncodesTo (opcode : List Byte) (fm : Form) : Prop :=
  ∀ n nn, (fm.instr n nn).WellFormed ∧ encode (fm.instr n nn) = opcode ++ fm.operandBytes n nn

theorem exists_eq_ofNat (b : Byte) : ∃ n < 256, b = BitVec.ofNat 8 n := ⟨b.toNat, b.isLt, by simp⟩

/-- Entry by entry, over the rows of R95. -/
theorem primaryCell_entry_encodesTo {b : Byte} {e : Entry} (h : primaryCell b = .entry e) : e.form.EncodesTo [b] := by
  obtain ⟨n, hn, rfl⟩ := exists_eq_ofNat b
  interval_cases n <;> cases h <;> exact fun _ _ => ⟨rfl, rfl⟩

/-- The one escape cell (R93). -/
theorem eq_of_primaryCell_escape {b : Byte} (h : primaryCell b = .escape) : b = 0xCB#8 := by
  obtain ⟨n, hn, rfl⟩ := exists_eq_ofNat b
  interval_cases n <;> cases h
  rfl

/-- Entry by entry, over the rows of R96: an extended entry needs no operand. -/
theorem extendedEntry_encodesTo {b : Byte} {e : Entry} (h : extendedEntry b = some e) :
    ∃ i, e.form = .op i ∧ i.WellFormed ∧ encode i = [0xCB#8, b] := by
  obtain ⟨n, hn, rfl⟩ := exists_eq_ofNat b
  interval_cases n <;> cases h <;> exact ⟨_, rfl, rfl, rfl⟩

/-! ## Encoding after decoding -/

/-- What decoding an entry's operands answers: the instruction of operands whose bytes come first (R91, R100). -/
theorem decodeOperands_eq_instr {fm : Form} {bytes rest : List Byte} {i : Instr}
    (h : decodeOperands fm bytes = .instr i rest) :
    ∃ n nn, i = fm.instr n nn ∧ bytes = fm.operandBytes n nn ++ rest := by
  cases fm with
  | op j =>
    cases h
    exact ⟨0, 0, rfl, rfl⟩
  | opN mk =>
    match bytes, h with
    | n :: _, rfl => exact ⟨n, 0, rfl, rfl⟩
  | opE mk =>
    match bytes, h with
    | e :: _, rfl => exact ⟨e, 0, rfl, rfl⟩
  | opNN mk =>
    match bytes, h with
    | lo :: hi :: _, rfl => exact ⟨0, wordOf hi lo, rfl, by simp [Form.operandBytes]⟩

/-- An extended entry is an instruction already: what follows its byte is left (R91, R94). -/
theorem decodeOperands_extended {b : Byte} {e : Entry} (h : extendedEntry b = some e) :
    ∃ i, i.WellFormed ∧ encode i = [0xCB#8, b] ∧ e.form = .op i ∧
      ∀ rest, decodeExtended (b :: rest) = .instr i rest := by
  obtain ⟨i, hform, hwf, henc⟩ := extendedEntry_encodesTo h
  exact ⟨i, hwf, henc, hform, fun rest => by simp only [decodeExtended, h, hform, decodeOperands]⟩

/-- Settles O2: the cell of the first byte gives the entry, its operands are read off the bytes after it, and the entry encodes
to the byte it stands at. -/
theorem everyDecodedWordIsAnEncoding : Obligations.EveryDecodedWordIsAnEncoding := by
  intro i bytes rest h
  cases bytes with
  | nil => cases h
  | cons b0 bytes =>
    simp only [decode] at h
    cases hcell : primaryCell b0 with
    | absent => simp [hcell] at h
    | entry e =>
      simp only [hcell] at h
      obtain ⟨n, nn, rfl, rfl⟩ := decodeOperands_eq_instr h
      obtain ⟨hwf, henc⟩ := primaryCell_entry_encodesTo hcell n nn
      exact ⟨hwf, by rw [henc]; rfl⟩
    | escape =>
      simp only [hcell] at h
      obtain rfl := eq_of_primaryCell_escape hcell
      cases bytes with
      | nil => cases h
      | cons b1 bytes =>
        cases hentry : extendedEntry b1 with
        | none => simp [decodeExtended, hentry] at h
        | some e =>
          obtain ⟨j, hwf, henc, -, hdec⟩ := decodeOperands_extended hentry
          obtain ⟨rfl, rfl⟩ := Decoded.instr.inj ((hdec bytes).symm.trans h)
          exact ⟨hwf, by rw [henc]; rfl⟩

/-! ## The fields of the opcode byte -/

/-- Settles O4: form by form, at each operand of the form. -/
theorem registerFieldsOfTheOpcodeByte : Obligations.RegisterFieldsOfTheOpcodeByte := by
  refine ⟨fun dst g => ?_, fun g n => ?_, fun o => ?_, fun op g => ?_, fun op n => ?_, fun p nn => ?_, fun p => ?_,
    fun k o => ?_, fun b o => ?_⟩
  · cases dst <;> cases g <;> rfl
  · cases g <;> rfl
  · rcases o with (_ | _) | _ <;> exact ⟨rfl, rfl⟩
  · cases op <;> cases g <;> exact ⟨rfl, rfl⟩
  · cases op <;> rfl
  · cases p <;> exact ⟨rfl, rfl, rfl, rfl⟩
  · cases p <;> exact ⟨rfl, rfl⟩
  · cases k <;> rcases o with (_ | _) | _ <;> rfl
  · fin_cases b <;> rcases o with (_ | _) | _ <;> rfl

/-- Settles O3: each word is looked up in the tables. -/
theorem wordsOfTheSpecDecode : Obligations.WordsOfTheSpecDecode :=
  ⟨rfl, rfl, rfl, rfl, rfl, rfl, rfl, rfl⟩

/-! ## Absent opcodes (R97) -/

theorem decode_singleton_eq_unimplemented_iff {b : Byte} :
    decode [b] = .unimplementedOpcode b false ↔ primaryCell b = .absent := by
  simp only [decode]
  cases primaryCell b with
  | absent => simp
  | escape => simp [decodeExtended]
  | entry e => rcases hform : e.form <;> simp [decodeOperands, hform]

theorem decode_escape_eq_unimplemented_iff {b : Byte} :
    decode [0xCB#8, b] = .unimplementedOpcode b true ↔ extendedEntry b = none := by
  have hcell : primaryCell 0xCB#8 = .escape := rfl
  simp only [decode, hcell]
  cases hentry : extendedEntry b with
  | none => simp [decodeExtended, hentry]
  | some e =>
    obtain ⟨i, -, -, -, hdec⟩ := decodeOperands_extended hentry
    simp [hdec]

end Sys2Proof
end

section
/-! PROOFS. What every step keeps (10_state.md R23, 20_memory.md R77): each property is a relation that every named update of
the state is in. -/

namespace Sys2Proof.Machine

/-! ## The invariant -/

/-- A write of a register leaves the low nibble of `F` zero, for a write of `F` masks it (R23). -/
theorem State.Inv.set8 {s : State} (h : s.Inv) (r : Reg) (v : Byte) : (s.set8 r v).Inv := by
  obtain ⟨hf, hmem⟩ := h
  refine ⟨?_, by rwa [State.set8_mem]⟩
  cases r with
  | f =>
    show v &&& 0xF0#8 &&& 0x0F#8 = 0x00#8
    rw [BitVec.and_assoc]
    exact BitVec.and_zero
  | _ => exact hf

/-- A step from a state with the invariant ends in one. -/
def KeepsInv (s t : State) : Prop := s.Inv → t.Inv

theorem stepRel_keepsInv : StepRel KeepsInv where
  refl _ := id
  trans hst htu := htu ∘ hst
  status _ hst := hst
  poke _ _ v hw hs := ⟨hs.1, Memory.wf_poke v hs.2 (.inr hw.1)⟩
  set8 _ r v hs := hs.set8 r v
  setSp _ _ := id
  setPc _ _ := id
  addTrace _ _ := id

/-- Settles O16: every named update of the state keeps the invariant, the masked write of `F` and the stores outside ROM
among them. -/
theorem everyStepKeepsTheInvariant : Obligations.EveryStepKeepsTheInvariant :=
  fun _ _ hs hstep => stepRel_keepsInv.of_step hstep hs

/-- Settles O15: the reset value of `F` is zero, and memory lists nothing. -/
theorem resetSatisfiesTheInvariant : Obligations.ResetSatisfiesTheInvariant := ⟨rfl, Memory.wf_reset⟩

/-! ## ROM -/

/-- Where ROM's contents come from is the same in both states, and so is every byte of ROM. -/
def SameRom (s t : State) : Prop := t.mem.romSource = s.mem.romSource ∧ ∀ a : Word, InRom a → t.peek a = s.peek a

theorem stepRel_sameRom : StepRel SameRom where
  refl _ := ⟨rfl, fun _ _ => rfl⟩
  trans hst htu := ⟨htu.1.trans hst.1, fun a ha => (htu.2 a ha).trans (hst.2 a ha)⟩
  status _ hst := hst
  poke s a v hw := by
    refine ⟨State.poke_romSource s a v, fun b hb => State.peek_poke_ne v ?_⟩
    rintro rfl
    exact hw.1 hb
  set8 s r v := ⟨by rw [State.set8_mem], fun a _ => State.peek_set8 s r v a⟩
  setSp _ _ := ⟨rfl, fun _ _ => rfl⟩
  setPc _ _ := ⟨rfl, fun _ _ => rfl⟩
  addTrace _ _ := ⟨rfl, fun _ _ => rfl⟩

/-- Settles O17: the one update that changes a byte of memory is a store to an address outside ROM. -/
theorem noStepChangesRom : Obligations.NoStepChangesRom := fun _ _ hstep => stepRel_sameRom.of_step hstep

end Sys2Proof.Machine
end

section
/-! PROOFS. Memory: routing (20_memory.md R53), one byte and one word (R57 to R64), the reset contents (10_state.md R35) and the
preload (R77). -/

namespace Sys2Proof.Machine

/-! ## Routing -/

theorem toNat_ofNat_word {n : Nat} (h : n < 65536) : (BitVec.ofNat 16 n).toNat = n := by
  rw [BitVec.toNat_ofNat]
  exact Nat.mod_eq_of_lt h

/-- The address `k` bytes after a store's first, within its size, is routed to its index `k`. -/
theorem route_base_add {st : StoreId} {k : Nat} (h : k < Store.size st) :
    route (BitVec.ofNat 16 (Store.base st + k)) = some (st, k) := by
  refine route_eq_some_of_toNat (toNat_ofNat_word ?_) h
  cases st <;> simp only [Store.base, Store.size] at h ⊢ <;> omega

/-- The store's addresses are the row's, or a half of them where the row is banked (R54, R55). -/
def Region.HasStore (r : Region) (st : StoreId) : Prop :=
  if r.banked then Store.size st = r.size / 2 ∧ (Store.base st = r.first ∨ Store.base st = r.first + r.size / 2)
  else Store.size st = r.size ∧ Store.base st = r.first

/-- A row and a store have no address in common, or the store is one of the row's. -/
theorem region_hasStore_or_disjoint {r : Region} (hr : r ∈ regionTable) (st : StoreId) :
    r.last < Store.base st ∨ Store.base st + Store.size st ≤ r.first ∨ r.HasStore st := by
  unfold Region.HasStore
  revert r
  cases st <;> decide

/-- An address of a readable row is routed to a store of the row, at its offset in the row or in the row's half. -/
theorem route_of_readable_row {a : Word} {r : Region} (h : r ∈ regionTable) (ha : r.Contains a) (hr : r.readable = true) :
    ∃ st, Store.size st = (if r.banked then r.size / 2 else r.size) ∧
      route a = some (st, if r.banked then (a.toNat - r.first) % (r.size / 2) else a.toNat - r.first) := by
  cases hroute : route a with
  | none => exact absurd (route_eq_none.mp hroute) ((Region.readable_iff h ha).mp hr)
  | some x =>
    obtain ⟨st, i⟩ := x
    obtain ⟨hbase, hlt⟩ := route_some hroute
    have hstore : r.HasStore st := by
      obtain hbelow | habove | hstore := region_hasStore_or_disjoint h st
      · omega
      · omega
      · exact hstore
    refine ⟨st, ?_⟩
    unfold Region.HasStore at hstore
    split at hstore
    case isTrue hbanked =>
      obtain ⟨hsize, hfirst⟩ := hstore
      have hindex : (a.toNat - r.first) % (r.size / 2) = i := by
        obtain hlow | hhigh := hfirst
        · rw [hbase, hlow, Nat.add_sub_cancel_left, Nat.mod_eq_of_lt (hsize ▸ hlt)]
        · rw [hbase, hhigh, Nat.add_assoc, Nat.add_sub_cancel_left, Nat.add_mod_left, Nat.mod_eq_of_lt (hsize ▸ hlt)]
      simp only [hbanked, if_true, hsize, hindex, and_self]
    case isFalse hbanked =>
      obtain ⟨hsize, hfirst⟩ := hstore
      have hindex : a.toNat - r.first = i := by omega
      simp only [hbanked, Bool.false_eq_true, if_false, hsize, hindex, and_self]

/-- Settles O7: the listed first addresses and sizes are the stores' own. -/
theorem routingReachesOneByteOfOneStore : Obligations.RoutingReachesOneByteOfOneStore := by
  refine ⟨fun st first size h => ?_, fun a b x => route_inj, fun a st i => route_index_lt, fun a => route_eq_none,
    fun a r hr hfirst hlast => route_of_readable_row hr ⟨hfirst, hlast⟩⟩
  have hstore : first = Store.base st ∧ size = Store.size st := by
    simp only [List.mem_cons, List.not_mem_nil, or_false, Prod.mk.injEq] at h
    obtain ⟨rfl, rfl, rfl⟩ | ⟨rfl, rfl, rfl⟩ | ⟨rfl, rfl, rfl⟩ | ⟨rfl, rfl, rfl⟩ | ⟨rfl, rfl, rfl⟩ | ⟨rfl, rfl, rfl⟩ |
      ⟨rfl, rfl, rfl⟩ | ⟨rfl, rfl, rfl⟩ | ⟨rfl, rfl, rfl⟩ | ⟨rfl, rfl, rfl⟩ | ⟨rfl, rfl, rfl⟩ := h <;> exact ⟨rfl, rfl⟩
  obtain ⟨rfl, rfl⟩ := hstore
  exact ⟨rfl, fun k => route_base_add⟩

/-! ## One byte -/

/-- A stored byte is the one byte of the one store its address is routed to (R58). -/
theorem Memory.readStore_poke_ne {m : Memory} {a : Word} {v : Byte} {x : StoreId × Nat} {u : StoreId} {k : Nat}
    (ha : route a = some x) (hk : k < Store.size u) (hne : (u, k) ≠ x) : (m.poke a v).readStore u k = m.readStore u k := by
  obtain ⟨st, i⟩ := x
  simp only [Memory.poke, ha]
  by_cases hu : u = st
  · subst hu
    have hki : k ≠ i := fun h => hne (h ▸ rfl)
    refine Memory.readStore_writeStore_index m v ?_ hki
    rintro rfl
    have hi := route_index_lt ha
    simp only [Store.size] at hk hi
    omega
  · exact Memory.readStore_writeStore_store m i k v hu

theorem not_canWrite_iff {a : Word} : ¬CanWrite a ↔ InRom a ∨ InUnused a := by
  rw [CanWrite, not_and_or, not_not, not_not]

/-- Settles O8: which accesses succeed is a matter of the address, and a write is a poke of the one byte routed to. -/
theorem byteAccessSucceedsOutsideRomAndUnused : Obligations.ByteAccessSucceedsOutsideRomAndUnused := by
  refine fun s a v => ⟨readByte_unused, fun h => ?_, fun h => writeByte_error v (not_canWrite_iff.mpr h), fun hrom hun => ?_⟩
  · obtain ⟨w, hw⟩ := peek_some_of_not_unused (s := s) h
    exact ⟨w, hw, readByte_ok hw⟩
  · refine ⟨s.poke a v, writeByte_poke v ⟨hrom, hun⟩, rfl, State.peek_poke_self v hun, Frame.poke _ s v (by simp),
      fun st i hroute => ⟨?_, fun u k => Memory.readStore_poke_ne hroute⟩⟩
    have hpeek : (s.poke a v).peek a = some v := State.peek_poke_self v hun
    simpa only [State.peek, Memory.peek, hroute, Option.some.injEq] using hpeek

/-! ## One word -/

theorem writeWord_readWord {s : State} {a : Word} (v : Word) (hl : CanWrite a) (hh : CanWrite (a + 1#16)) :
    ∃ t, writeWord a v s = .ok () t ∧ t.status = s.status ∧ readWord a t = .ok v t ∧
      t.peek a = some (loByte v) ∧ t.peek (a + 1#16) = some (hiByte v) ∧ Frame [] [a, a + 1#16] s t := by
  have hlo : ((s.poke a (loByte v)).poke (a + 1#16) (hiByte v)).peek a = some (loByte v) := by
    rw [State.peek_poke_ne _ (ne_add_one a).symm, State.peek_poke_self _ hl.2]
  have hhi := State.peek_poke_self (s := s.poke a (loByte v)) (hiByte v) hh.2
  refine ⟨_, writeWord_ok v hl hh, rfl, ?_, hlo, hhi, (Frame.poke _ s _ (by simp)).trans (Frame.poke _ _ _ (by simp))⟩
  rw [readWord_ok hlo hhi, wordOf_hiByte_loByte]

/-- Settles O11, from the byte accesses at the two addresses, low byte first. -/
theorem wordAccessIsTwoBytesLowFirst : Obligations.WordAccessIsTwoBytesLowFirst := fun _ _ v =>
  ⟨writeWord_readWord v,
    fun hl hh => ⟨_, writeWord_high v hl hh, rfl, State.peek_poke_self _ hl.2, Frame.poke _ _ _ (by simp)⟩,
    writeWord_low v, readWord_low, readWord_high⟩

/-! ## Reset -/

/-- A byte of memory after reset is what an unlisted byte of its store reads as (R35). -/
theorem peek_reset {a : Word} {st : StoreId} {i : Nat} (h : route a = some (st, i)) :
    State.reset.peek a = some (Store.unlisted .bootImage st i) := by
  simp only [State.peek, Memory.peek, h]
  cases st <;> rfl

theorem vramFill_ne_zero : Config.vramFill ≠ 0x00#8 := by
  have hlt := Config.vramFillPred.isLt
  rw [Config.vramFill, BitVec.toNat_ne, BitVec.toNat_ofNat, BitVec.toNat_ofNat]
  omega

/-- The bytes of reset that are zero: all but the bootstrap image and Video RAM. -/
theorem unlisted_bootImage_eq_zero {st : StoreId} {i : Nat} (hst : st ≠ .vram) (hi : 0x100 ≤ Store.base st + i) :
    Store.unlisted .bootImage st i = 0x00#8 := by
  cases st with
  | vram => exact absurd rfl hst
  | romBank0 =>
    have hge : ¬i < 256 := by simp only [Store.base] at hi; omega
    simp only [Store.unlisted, hge, dif_neg, not_false_eq_true]
  | _ => rfl

/-- Settles O13: each address is routed, and its store lists nothing at reset. -/
theorem resetMemory : Obligations.ResetMemory := by
  refine ⟨fun a => ?_, ⟨Config.vramFill, vramFill_ne_zero, fun a hlo hhi => ?_⟩, fun a hlo hvram hun => ?_⟩
  · have ha : a.val < Store.size .romBank0 := a.isLt.trans (by decide)
    have hroute : route (BitVec.ofNat 16 a.val) = some (.romBank0, a.val) :=
      route_eq_some_of_toNat (by rw [toNat_ofNat_word (a.isLt.trans (by decide)), Store.base, Nat.zero_add]) ha
    rw [peek_reset hroute]
    simp only [Store.unlisted, a.isLt, dif_pos, Fin.eta]
  · refine peek_reset (st := .vram) (i := a.toNat - 0x8000) (route_eq_some_of_toNat ?_ ?_)
    · simp only [Store.base]; omega
    · simp only [Store.size]; omega
  · cases hroute : route a with
    | none => exact absurd (route_eq_none.mp hroute) hun
    | some x =>
      obtain ⟨st, i⟩ := x
      obtain ⟨hbase, hlt⟩ := route_some hroute
      rw [peek_reset hroute, unlisted_bootImage_eq_zero ?_ (by omega)]
      rintro rfl
      simp only [Store.base, Store.size] at hbase hlt
      omega

/-- Settles O12, field by field of the reset state. -/
theorem resetRegisters : Obligations.ResetRegisters :=
  ⟨fun r => by cases r <;> rfl, ⟨rfl, rfl, rfl, rfl, rfl⟩, rfl, rfl, rfl, rfl⟩

/-! ## The preload -/

/-- Once ROM's contents are the host's, a byte given from outside replaces the byte at its address, in ROM too. -/
theorem Memory.preloadByte_eq_poke {m : Memory} (h : m.romSource = .preload) (a : Word) (v : Byte) :
    m.preloadByte a v = m.poke a v := by
  unfold Memory.preloadByte
  split
  · rw [← h]
  · rfl

/-- The preload is of memory alone. -/
theorem preload_frame (bytes : List Byte) : ∀ (s : State) (addr : Word),
    (∀ r, (s.preload addr bytes).get8 r = s.get8 r) ∧ (s.preload addr bytes).pc = s.pc ∧
      (s.preload addr bytes).sp = s.sp ∧ (s.preload addr bytes).status = s.status ∧
      (s.preload addr bytes).trace = s.trace := by
  induction bytes with
  | nil => exact fun s _ => ⟨fun _ => rfl, rfl, rfl, rfl, rfl⟩
  | cons v rest ih =>
    intro s addr
    obtain ⟨hreg, hpc, hsp, hstatus, htrace⟩ := ih (s.setMem (s.mem.preloadByte addr v)) (addr + 1#16)
    exact ⟨fun r => (hreg r).trans (State.setMem_get8 s _ r), hpc, hsp, hstatus, htrace⟩

/-- Bytes given within ROM from address `n`, once ROM's contents are the host's: each reads back at its address, and every other
address reads as before. -/
theorem peek_preload {bytes : List Byte} {s : State} {n : Nat} (hsrc : s.mem.romSource = .preload)
    (hlen : n + bytes.length ≤ 32768) (a : Word) :
    (s.preload (BitVec.ofNat 16 n) bytes).peek a =
      if n ≤ a.toNat ∧ a.toNat < n + bytes.length then bytes[a.toNat - n]? else s.peek a := by
  induction bytes generalizing s n with
  | nil =>
    rw [if_neg (by simp only [List.length_nil]; omega)]
    rfl
  | cons v rest ih =>
    rw [List.length_cons] at hlen
    have haddr : (BitVec.ofNat 16 n).toNat = n := toNat_ofNat_word (by omega)
    have hnext : BitVec.ofNat 16 n + 1#16 = BitVec.ofNat 16 (n + 1) := BitVec.ofNat_add_ofNat n 1
    have hpoke : s.setMem (s.mem.preloadByte (BitVec.ofNat 16 n) v) = s.poke (BitVec.ofNat 16 n) v := by
      rw [Memory.preloadByte_eq_poke hsrc, State.poke]
    rw [State.preload, hpoke, hnext, ih (by rwa [State.poke_romSource]) (by omega), List.length_cons]
    by_cases ha : a = BitVec.ofNat 16 n
    · subst ha
      rw [if_neg (by omega), if_pos (by omega), State.peek_poke_self v (by omega), haddr, Nat.sub_self]
      rfl
    · have hne : a.toNat ≠ n := fun h => ha (BitVec.eq_of_toNat_eq (h.trans haddr.symm))
      rw [State.peek_poke_ne v ha]
      by_cases hin : n + 1 ≤ a.toNat ∧ a.toNat < n + 1 + rest.length
      · rw [if_pos hin, if_pos (by omega), show a.toNat - n = a.toNat - (n + 1) + 1 by omega, List.getElem?_cons_succ]
      · rw [if_neg hin, if_neg (by omega)]

/-- An address of ROM is routed to one of ROM's stores. -/
theorem route_rom {a : Word} {st : StoreId} {i : Nat} (h : route a = some (st, i)) (hr : InRom a) :
    st = .romBank0 ∨ st = .romBankN := by
  obtain ⟨hbase, -⟩ := route_some h
  cases st with
  | romBank0 => exact .inl rfl
  | romBankN => exact .inr rfl
  | _ =>
    simp only [Store.base] at hbase
    omega

/-- ROM emptied before the host's bytes are given: it reads zero, and nothing else has changed. -/
theorem peek_clearRom (s : State) (a : Word) :
    (s.setMem { s.mem with romSource := .preload, romBank0 := [], romBankN := [] }).peek a =
      if InRom a then some 0x00#8 else s.peek a := by
  cases hroute : route a with
  | none =>
    have hun := route_eq_none.mp hroute
    rw [if_neg (by omega)]
    simp only [State.peek, Memory.peek, hroute]
  | some x =>
    obtain ⟨st, i⟩ := x
    split
    case isTrue hrom =>
      simp only [State.peek, Memory.peek, hroute]
      obtain rfl | rfl := route_rom hroute hrom <;> rfl
    case isFalse hrom =>
      obtain ⟨h0, hN⟩ := route_not_rom hroute hrom
      simp only [State.peek, Memory.peek, hroute]
      cases st with
      | romBank0 => exact absurd rfl h0
      | romBankN => exact absurd rfl hN
      | _ => rfl

/-- Settles O14: ROM is emptied, then the host's bytes are given from address 0. -/
theorem preloadGivesRomItsContents : Obligations.PreloadGivesRomItsContents := by
  intro s rom hlen
  have hpeek (a : Word) : (s.preloadRom rom).peek a =
      if a.toNat < rom.length then rom[a.toNat]? else if InRom a then some 0x00#8 else s.peek a := by
    have h := peek_preload (s := s.setMem { s.mem with romSource := .preload, romBank0 := [], romBankN := [] }) (n := 0)
      rfl (by simpa using hlen) a
    simpa only [State.preloadRom, List.take_of_length_le hlen, peek_clearRom, Nat.zero_le, true_and, Nat.zero_add,
      Nat.sub_zero] using h
  refine ⟨fun a ha => ?_, fun a ha => ?_, preload_frame _ _ _⟩
  · rw [hpeek]
    by_cases hin : a.toNat < rom.length
    · rw [if_pos hin, List.getElem?_eq_getElem hin]
      rfl
    · rw [if_neg hin, if_pos ha, List.getElem?_eq_none (by omega)]
      rfl
  · rw [hpeek, if_neg (by omega), if_neg ha]

end Sys2Proof.Machine
end

section
/-! PROOFS. The fetch of an instruction against the decoder (40_step_cycle.md R120, R121; 30_encoding.md R94): what the bytes at
`pc` decode to says what the fetch answers. -/

namespace Sys2Proof.Machine

/-! ## The bytes at an address -/

theorem peek_eq_none_of_unused {s : State} {a : Word} (h : InUnused a) : s.peek a = none := Memory.peek_eq_none.mpr h

theorem bytesAt_unused {s : State} {a : Word} (n : Nat) (h : InUnused a) : s.bytesAt (n + 1) a = [] := by
  simp only [State.bytesAt, peek_eq_none_of_unused h]

theorem bytesAt_succ {s : State} {a : Word} {b : Byte} (n : Nat) (h : s.peek a = some b) :
    s.bytesAt (n + 1) a = b :: s.bytesAt n (a + 1#16) := by
  simp only [State.bytesAt, h]

/-- The bytes at an address are memory's. -/
theorem bytesAt_of_mem_eq {s t : State} (h : t.mem = s.mem) (n : Nat) (a : Word) : t.bytesAt n a = s.bytesAt n a := by
  induction n generalizing a with
  | zero => rfl
  | succ n ih => simp only [State.bytesAt, State.peek, h, ih]

/-- An address lies in Unused or has a byte. -/
theorem unused_or_peek (s : State) (a : Word) : InUnused a ∨ ∃ b, s.peek a = some b :=
  or_iff_not_imp_left.mpr peek_some_of_not_unused

/-! ## Operands -/

theorem setPc_pc_self (s : State) : s.setPc s.pc = s := rfl

/-- Where the bytes at `pc` give an entry's operands, fetching them gives the same instruction, and `pc` is past them. -/
theorem fetchOperands_of_instr {fm : Form} {s : State} {i : Instr} {rest : List Byte}
    (h : decodeOperands fm (s.bytesAt 2 s.pc) = .instr i rest) :
    ∃ n nn, i = fm.instr n nn ∧
      fetchOperands fm s = .ok i (s.setPc (s.pc + BitVec.ofNat 16 (fm.operandBytes n nn).length)) := by
  cases fm with
  | op j =>
    cases h
    refine ⟨0, 0, rfl, ?_⟩
    rw [Form.operandBytes, List.length_nil, BitVec.add_zero, setPc_pc_self]
    rfl
  | opN mk =>
    obtain hpc | ⟨lo, hlo⟩ := unused_or_peek s s.pc
    · rw [bytesAt_unused 1 hpc] at h
      cases h
    · rw [bytesAt_succ 1 hlo] at h
      cases h
      exact ⟨lo, 0, rfl, by simp [fetchOperands, fetch8_ok hlo, Form.operandBytes]⟩
  | opE mk =>
    obtain hpc | ⟨lo, hlo⟩ := unused_or_peek s s.pc
    · rw [bytesAt_unused 1 hpc] at h
      cases h
    · rw [bytesAt_succ 1 hlo] at h
      cases h
      exact ⟨lo, 0, rfl, by simp [fetchOperands, fetch8_ok hlo, Form.operandBytes]⟩
  | opNN mk =>
    obtain hpc | ⟨lo, hlo⟩ := unused_or_peek s s.pc
    · rw [bytesAt_unused 1 hpc] at h
      cases h
    · rw [bytesAt_succ 1 hlo] at h
      obtain hpc | ⟨hi, hhi⟩ := unused_or_peek s (s.pc + 1#16)
      · rw [bytesAt_unused 0 hpc] at h
        cases h
      · rw [bytesAt_succ 0 hhi] at h
        cases h
        exact ⟨0, wordOf hi lo, rfl, by simp [fetchOperands, fetch16_ok hlo hhi, Form.operandBytes]⟩

/-- Where they are too few, the fetch faults at the first address that has none, and `pc` stays (R121). -/
theorem fetchOperands_of_truncated {fm : Form} {s : State} (h : decodeOperands fm (s.bytesAt 2 s.pc) = .truncated) :
    InUnused (s.pc + BitVec.ofNat 16 (s.bytesAt 2 s.pc).length) ∧
      fetchOperands fm s =
        .error (.illegalMemoryAccess (s.pc + BitVec.ofNat 16 (s.bytesAt 2 s.pc).length) .read) s := by
  obtain hpc | ⟨lo, hlo⟩ := unused_or_peek s s.pc
  · rw [bytesAt_unused 1 hpc] at h ⊢
    rw [List.length_nil, BitVec.add_zero]
    refine ⟨hpc, ?_⟩
    cases fm with
    | op i => cases h
    | opN mk => simp [fetchOperands, fetch8_unused hpc]
    | opE mk => simp [fetchOperands, fetch8_unused hpc]
    | opNN mk => simp [fetchOperands, fetch16_low hpc]
  · rw [bytesAt_succ 1 hlo] at h ⊢
    obtain hpc | ⟨hi, hhi⟩ := unused_or_peek s (s.pc + 1#16)
    · rw [bytesAt_unused 0 hpc] at h ⊢
      refine ⟨hpc, ?_⟩
      cases fm with
      | opNN mk => simp [fetchOperands, fetch16_high (not_unused_of_peek hlo) hpc]
      | _ => cases h
    · rw [bytesAt_succ 0 hhi] at h
      cases fm <;> cases h

/-- An entry's operands are never an absent opcode. -/
theorem decodeOperands_ne_unimplemented (fm : Form) (bytes : List Byte) (b : Byte) (x : Bool) :
    decodeOperands fm bytes ≠ .unimplementedOpcode b x := by
  rcases fm with _ | _ | _ | _ <;> rcases bytes with _ | ⟨_, _ | ⟨_, _⟩⟩ <;> exact Decoded.noConfusion

/-! ## The opcode byte -/

/-- What can stand at `pc`: the cases of R94. -/
theorem opcode_cases {P : State → Prop} (s : State)
    (on_unused : InUnused s.pc → P s)
    (on_absent : ∀ b, s.peek s.pc = some b → primaryCell b = .absent → P s)
    (on_entry : ∀ b e, s.peek s.pc = some b → primaryCell b = .entry e → P s)
    (on_escape_unused : s.peek s.pc = some 0xCB#8 → InUnused (s.pc + 1#16) → P s)
    (on_escape_absent : ∀ b, s.peek s.pc = some 0xCB#8 → s.peek (s.pc + 1#16) = some b → extendedEntry b = none → P s)
    (on_escape_entry : ∀ b e, s.peek s.pc = some 0xCB#8 → s.peek (s.pc + 1#16) = some b → extendedEntry b = some e → P s) :
    P s := by
  obtain hpc | ⟨b0, hb0⟩ := unused_or_peek s s.pc
  · exact on_unused hpc
  · cases hcell : primaryCell b0 with
    | absent => exact on_absent b0 hb0 hcell
    | entry e => exact on_entry b0 e hb0 hcell
    | escape =>
      obtain rfl := eq_of_primaryCell_escape hcell
      obtain hpc | ⟨b1, hb1⟩ := unused_or_peek s (s.pc + 1#16)
      · exact on_escape_unused hb0 hpc
      · cases hentry : extendedEntry b1 with
        | none => exact on_escape_absent b1 hb0 hb1 hentry
        | some e => exact on_escape_entry b1 e hb0 hb1 hentry

section
variable {s : State}

theorem primaryCell_escape : primaryCell 0xCB#8 = .escape := rfl

/-- The state in which a primary entry's operands are fetched: `pc` past the opcode byte, the record emitted (R123). -/
def State.afterOpcode (s : State) (b : Byte) (e : Entry) : State :=
  (s.setPc (s.pc + 1#16)).addTrace ⟨s.pc, b, e.mnemonic, false⟩

theorem fetchInstr_unused (h : InUnused s.pc) : fetchInstr s = .error (.illegalMemoryAccess s.pc .read) s := by
  simp [fetchInstr, fetchOpcode, fetch8_unused h]

theorem fetchInstr_absent {b : Byte} (h : s.peek s.pc = some b) (hcell : primaryCell b = .absent) :
    fetchInstr s = .error (.unimplementedOpcode b false) (s.setPc (s.pc + 1#16)) := by
  simp [fetchInstr, fetchOpcode, fetch8_ok h, hcell]

theorem fetchInstr_entry {b : Byte} {e : Entry} (h : s.peek s.pc = some b) (hcell : primaryCell b = .entry e) :
    fetchInstr s = fetchOperands e.form (s.afterOpcode b e) := by
  simp [fetchInstr, fetchOpcode, fetch8_ok h, hcell, State.afterOpcode]

theorem fetch8_second {b : Byte} (h1 : s.peek (s.pc + 1#16) = some b) :
    fetch8 (s.setPc (s.pc + 1#16)) = .ok b (s.setPc (s.pc + 2#16)) := by
  have hfetch := fetch8_ok (s := s.setPc (s.pc + 1#16)) h1
  rwa [State.setPc_pc, BitVec.add_assoc] at hfetch

section
variable (h : s.peek s.pc = some 0xCB#8)
include h

theorem fetchInstr_escape_unused (h1 : InUnused (s.pc + 1#16)) :
    fetchInstr s = .error (.illegalMemoryAccess (s.pc + 1#16) .read) (s.setPc (s.pc + 1#16)) := by
  have hfetch := fetch8_unused (s := s.setPc (s.pc + 1#16)) h1
  simp [fetchInstr, fetchOpcode, fetch8_ok h, primaryCell_escape, hfetch]

theorem fetchInstr_escape_absent {b : Byte} (h1 : s.peek (s.pc + 1#16) = some b) (hentry : extendedEntry b = none) :
    fetchInstr s = .error (.unimplementedOpcode b true) (s.setPc (s.pc + 2#16)) := by
  simp [fetchInstr, fetchOpcode, fetch8_ok h, primaryCell_escape, fetch8_second h1, hentry]

theorem fetchInstr_escape_entry {b : Byte} {e : Entry} {i : Instr} (h1 : s.peek (s.pc + 1#16) = some b)
    (hentry : extendedEntry b = some e) (hform : e.form = .op i) :
    fetchInstr s = .ok i ((s.setPc (s.pc + 2#16)).addTrace ⟨s.pc, b, e.mnemonic, true⟩) := by
  simp [fetchInstr, fetchOpcode, fetch8_ok h, primaryCell_escape, fetch8_second h1, hentry, hform, fetchOperands]

end

/-! ## What the bytes at `pc` decode to -/

theorem codeAt_unused (h : InUnused s.pc) : s.codeAt = [] := bytesAt_unused 2 h

theorem codeAt_cons {b : Byte} (h : s.peek s.pc = some b) : s.codeAt = b :: s.bytesAt 2 (s.pc + 1#16) := bytesAt_succ 2 h

theorem decode_codeAt_unused (h : InUnused s.pc) : decode s.codeAt = .truncated := by
  rw [codeAt_unused h]
  rfl

theorem decode_codeAt_absent {b : Byte} (h : s.peek s.pc = some b) (hcell : primaryCell b = .absent) :
    decode s.codeAt = .unimplementedOpcode b false := by
  simp only [codeAt_cons h, decode, hcell]

theorem decode_codeAt_entry {b : Byte} {e : Entry} (h : s.peek s.pc = some b) (hcell : primaryCell b = .entry e) :
    decode s.codeAt = decodeOperands e.form ((s.afterOpcode b e).bytesAt 2 (s.afterOpcode b e).pc) := by
  have hbytes : (s.afterOpcode b e).bytesAt 2 (s.afterOpcode b e).pc = s.bytesAt 2 (s.pc + 1#16) :=
    bytesAt_of_mem_eq rfl 2 _
  simp only [codeAt_cons h, decode, hcell, hbytes]

section
variable (h : s.peek s.pc = some 0xCB#8)
include h

theorem codeAt_escape_unused (h1 : InUnused (s.pc + 1#16)) : s.codeAt = [0xCB#8] := by
  rw [codeAt_cons h, bytesAt_unused 1 h1]

theorem decode_codeAt_escape_unused (h1 : InUnused (s.pc + 1#16)) : decode s.codeAt = .truncated := by
  rw [codeAt_escape_unused h h1]
  rfl

theorem decode_codeAt_escape_absent {b : Byte} (h1 : s.peek (s.pc + 1#16) = some b) (hentry : extendedEntry b = none) :
    decode s.codeAt = .unimplementedOpcode b true := by
  simp only [codeAt_cons h, bytesAt_succ 1 h1, decode, primaryCell_escape, decodeExtended, hentry]

theorem decode_codeAt_escape_entry {b : Byte} {e : Entry} {i : Instr} (h1 : s.peek (s.pc + 1#16) = some b)
    (hentry : extendedEntry b = some e) (hform : e.form = .op i) :
    decode s.codeAt = .instr i (s.bytesAt 1 (s.pc + 1#16 + 1#16)) := by
  simp only [codeAt_cons h, bytesAt_succ 1 h1, decode, primaryCell_escape, decodeExtended, hentry, hform, decodeOperands]

end
end

/-! ## The step of a running machine -/

theorem step_of_fetchInstr_ok {s t : State} {i : Instr} (hs : s.status = .running) (h : fetchInstr s = .ok i t) :
    step s = exec i t := by
  rw [step_of_running hs, stepRunning, h]

theorem step_of_fetchInstr_error {s t : State} {f : Fault} (hs : s.status = .running) (h : fetchInstr s = .error f t) :
    step s = .next (t.setStatus (.faulted f)) := by
  rw [step_of_running hs, stepRunning, h]
  rfl

/-- Settles O29: the step looks at the status first. -/
theorem aFaultedMachineNeverStepsAgain : Obligations.AFaultedMachineNeverStepsAgain := by
  intro s f hs
  simp only [step, hs]

/-- Settles O9: the two byte accesses, and the opcode fetch, which is the first of them. -/
theorem unusedRegionRejectsEverything : Obligations.UnusedRegionRejectsEverything := by
  refine fun s a v ha => ⟨readByte_unused ha, writeByte_error v (fun hc => hc.2 ha), fun hs hpc => ?_⟩
  subst hpc
  exact step_of_fetchInstr_error hs (fetchInstr_unused ha)

/-! ## The record of a decoded instruction (R123) -/

theorem record_of_primary {b : Byte} {e : Entry} {i : Instr} {operands : List Byte} (hcell : primaryCell b = .entry e)
    (henc : encode i = b :: operands) : i.opcode = b ∧ i.mnemonic = e.mnemonic ∧ i.isExtended = false := by
  have hb : b ≠ 0xCB#8 := by
    rintro rfl
    cases hcell
  have hopcode : i.opcode = b := by simp only [Instr.opcode, henc, hb, if_false]
  have hext : i.isExtended = false := by simp [Instr.isExtended, henc, hb]
  exact ⟨hopcode, by simp [Instr.mnemonic, hext, hopcode, hcell], hext⟩

theorem record_of_extended {b : Byte} {e : Entry} {i : Instr} (hentry : extendedEntry b = some e)
    (henc : encode i = [0xCB#8, b]) : i.opcode = b ∧ i.mnemonic = e.mnemonic ∧ i.isExtended = true := by
  have hopcode : i.opcode = b := by simp [Instr.opcode, henc]
  have hext : i.isExtended = true := by simp [Instr.isExtended, henc]
  exact ⟨hopcode, by simp [Instr.mnemonic, hext, hopcode, hentry], hext⟩

/-- Settles O26: the bytes that decode to the instruction are the ones the fetch reads, so `pc` is past all of them and the record
is the entry's. -/
theorem stepRunsTheDecodedInstruction : Obligations.StepRunsTheDecodedInstruction := by
  intro s i rest hs hdec
  cases s using opcode_cases with
  | on_unused hpc =>
    rw [decode_codeAt_unused hpc] at hdec
    cases hdec
  | on_absent b hb hcell =>
    rw [decode_codeAt_absent hb hcell] at hdec
    cases hdec
  | on_entry b e hb hcell =>
    rw [decode_codeAt_entry hb hcell] at hdec
    obtain ⟨n, nn, rfl, hfetch⟩ := fetchOperands_of_instr hdec
    obtain ⟨-, henc⟩ := primaryCell_entry_encodesTo hcell n nn
    obtain ⟨hopcode, hmnemonic, hext⟩ := record_of_primary hcell henc
    have hlen : BitVec.ofNat 16 (e.form.instr n nn).length =
        1#16 + BitVec.ofNat 16 (e.form.operandBytes n nn).length := by
      rw [Instr.length, henc, List.length_append, List.length_singleton, BitVec.ofNat_add]
    rw [step_of_fetchInstr_ok hs ((fetchInstr_entry hb hcell).trans hfetch), hopcode, hmnemonic, hext, hlen,
      ← BitVec.add_assoc]
    rfl
  | on_escape_unused hb hpc =>
    rw [decode_codeAt_escape_unused hb hpc] at hdec
    cases hdec
  | on_escape_absent b hb hb1 hentry =>
    rw [decode_codeAt_escape_absent hb hb1 hentry] at hdec
    cases hdec
  | on_escape_entry b e hb hb1 hentry =>
    obtain ⟨j, hform, -, henc⟩ := extendedEntry_encodesTo hentry
    rw [decode_codeAt_escape_entry hb hb1 hentry hform] at hdec
    cases hdec
    obtain ⟨hopcode, hmnemonic, hext⟩ := record_of_extended hentry henc
    rw [step_of_fetchInstr_ok hs (fetchInstr_escape_entry hb hb1 hentry hform), hopcode, hmnemonic, hext, Instr.length, henc]
    rfl

/-- A step whose opcode byte, or byte after the escape, is absent: `pc` past it, the fault taken, nothing else (R262). -/
theorem step_unimplemented {s : State} {b : Byte} {x : Bool} (hs : s.status = .running)
    (hdec : decode s.codeAt = .unimplementedOpcode b x) :
    (if x then s.peek s.pc = some 0xCB#8 ∧ s.peek (s.pc + 1#16) = some b else s.peek s.pc = some b) ∧
      decode (if x then [0xCB#8, b] else [b]) = .unimplementedOpcode b x ∧
      step s = .next ((s.setPc (s.pc + (if x then 2#16 else 1#16))).setStatus (.faulted (.unimplementedOpcode b x))) := by
  cases s using opcode_cases with
  | on_unused hpc =>
    rw [decode_codeAt_unused hpc] at hdec
    cases hdec
  | on_absent b hb hcell =>
    rw [decode_codeAt_absent hb hcell] at hdec
    cases hdec
    exact ⟨hb, decode_singleton_eq_unimplemented_iff.mpr hcell, step_of_fetchInstr_error hs (fetchInstr_absent hb hcell)⟩
  | on_entry b e hb hcell =>
    rw [decode_codeAt_entry hb hcell] at hdec
    exact absurd hdec (decodeOperands_ne_unimplemented _ _ _ _)
  | on_escape_unused hb hpc =>
    rw [decode_codeAt_escape_unused hb hpc] at hdec
    cases hdec
  | on_escape_absent b hb hb1 hentry =>
    rw [decode_codeAt_escape_absent hb hb1 hentry] at hdec
    cases hdec
    exact ⟨⟨hb, hb1⟩, decode_escape_eq_unimplemented_iff.mpr hentry,
      step_of_fetchInstr_error hs (fetchInstr_escape_absent hb hb1 hentry)⟩
  | on_escape_entry b e hb hb1 hentry =>
    obtain ⟨j, hform, -, -⟩ := extendedEntry_encodesTo hentry
    rw [decode_codeAt_escape_entry hb hb1 hentry hform] at hdec
    cases hdec

/-- Settles O5: the lists are checked against the tables byte by byte. -/
theorem absentOpcodesAreTheListedOnes : Obligations.AbsentOpcodesAreTheListedOnes := by
  unfold Obligations.AbsentOpcodesAreTheListedOnes
  intro absentPrimary absentExtended
  have hlists : ∀ b : Byte, (decode [b] = .unimplementedOpcode b false ↔ b.toNat ∈ absentPrimary) ∧
      (decode [0xCB#8, b] = .unimplementedOpcode b true ↔ absentExtended b) := by
    simp only [absentPrimary, absentExtended]
    decide
  refine ⟨rfl, hlists, fun s b hs hb habsent => ?_, fun s b hs hb hb1 habsent => ?_⟩
  · have hcell := decode_singleton_eq_unimplemented_iff.mp ((hlists b).1.mpr habsent)
    obtain ⟨-, -, hstep⟩ := step_unimplemented hs (decode_codeAt_absent hb hcell)
    exact ⟨_, hstep, rfl⟩
  · have hentry := decode_escape_eq_unimplemented_iff.mp ((hlists b).2.mpr habsent)
    obtain ⟨-, -, hstep⟩ := step_unimplemented hs (decode_codeAt_escape_absent hb hb1 hentry)
    exact ⟨_, hstep, rfl⟩

/-- Settles O28: too few bytes at `pc` means that the byte after the ones there lies in Unused, and the fetch of it faults. -/
theorem anUnreadableInstructionByteFaults : Obligations.AnUnreadableInstructionByteFaults := by
  intro s hs hdec
  cases s using opcode_cases with
  | on_unused hpc =>
    rw [codeAt_unused hpc, List.length_nil, BitVec.add_zero]
    exact ⟨hpc, _, step_of_fetchInstr_error hs (fetchInstr_unused hpc), rfl, State.setStatus_get8 s _, rfl, rfl, rfl, rfl⟩
  | on_absent b hb hcell =>
    rw [decode_codeAt_absent hb hcell] at hdec
    cases hdec
  | on_entry b e hb hcell =>
    rw [decode_codeAt_entry hb hcell] at hdec
    obtain ⟨hpc, hfetch⟩ := fetchOperands_of_truncated hdec
    have hlen : s.pc + BitVec.ofNat 16 s.codeAt.length = (s.afterOpcode b e).pc +
        BitVec.ofNat 16 ((s.afterOpcode b e).bytesAt 2 (s.afterOpcode b e).pc).length := by
      have hbytes : (s.afterOpcode b e).bytesAt 2 (s.afterOpcode b e).pc = s.bytesAt 2 (s.pc + 1#16) :=
        bytesAt_of_mem_eq rfl 2 _
      rw [hbytes, codeAt_cons hb, List.length_cons, Nat.add_comm, BitVec.ofNat_add, ← BitVec.add_assoc]
      rfl
    have hne : b ≠ 0xCB#8 := by
      rintro rfl
      cases hcell
    rw [hlen, codeAt_cons hb]
    refine ⟨hpc, _, step_of_fetchInstr_error hs ((fetchInstr_entry hb hcell).trans hfetch), rfl, fun r => ?_, rfl, rfl, rfl,
      ?_⟩
    · simp only [State.setStatus_get8, State.afterOpcode, State.addTrace_get8, State.setPc_get8]
    · simp only [hne, if_false]
      exact ⟨e.mnemonic, rfl⟩
  | on_escape_unused hb hpc =>
    rw [codeAt_escape_unused hb hpc]
    refine ⟨hpc, _, step_of_fetchInstr_error hs (fetchInstr_escape_unused hb hpc), rfl, fun r => ?_, rfl, rfl, rfl, rfl⟩
    simp only [State.setStatus_get8, State.setPc_get8]
  | on_escape_absent b hb hb1 hentry =>
    rw [decode_codeAt_escape_absent hb hb1 hentry] at hdec
    cases hdec
  | on_escape_entry b e hb hb1 hentry =>
    obtain ⟨j, hform, -, -⟩ := extendedEntry_encodesTo hentry
    rw [decode_codeAt_escape_entry hb hb1 hentry hform] at hdec
    cases hdec

end Sys2Proof.Machine
end

section
/-! PROOFS. The 8-bit helpers (42_alu8.md R180 to R186) and the rotates (44_rotate_bit.md R220 to R223), on integers. -/

namespace Sys2Proof.Machine

/-! ## Bytes as integers -/

/-- The mask `0xF` keeps the low nibble. -/
theorem and_0xF (n : Nat) : n &&& 0xF = n % 16 := Nat.and_two_pow_sub_one_eq_mod n 4

theorem ofNat_eq_zero_iff (n : Nat) : BitVec.ofNat 8 n = 0 ↔ n % 256 = 0 := by
  rw [BitVec.toNat_eq, BitVec.toNat_ofNat]
  rfl

theorem sub_toNat (a b : Byte) : (a - b).toNat = (a.toNat + (256 - b.toNat)) % 256 := by
  rw [BitVec.toNat_sub, Nat.add_comm]

/-- Bit 4 of a number that is masked out is clear exactly when that digit of it is 0. -/
theorem and_0x10_ne_zero_iff (n : Nat) : n &&& 0x10 ≠ 0 ↔ n.testBit 4 = true := by
  have hmask : n &&& 0x10 = (n.testBit 4).toNat * 16 := Nat.and_two_pow n 4
  rw [hmask]
  cases n.testBit 4 <;> decide

/-- The half-borrow test of R183 on integers: bit 4 of `a ^ b ^ (a - b)` is set exactly when the low nibble borrows. It holds of
an operand of nine bits too, as R185 has it. -/
theorem xor_bit4_iff_borrow {a b : Nat} (hb : b ≤ 256) :
    (a ^^^ b ^^^ (a + (512 - b)) % 256) &&& 0x10 ≠ 0 ↔ a % 16 < b % 16 := by
  have hodd (x y z : Nat) : (x.testBit 4 ^^ y.testBit 4 ^^ z.testBit 4) = true ↔ (x / 16 + y / 16 + z / 16) % 2 = 1 := by
    simp only [Nat.testBit_eq_decide_div_mod_eq, Nat.reducePow]
    obtain hx | hx := Nat.mod_two_eq_zero_or_one (x / 16) <;>
      obtain hy | hy := Nat.mod_two_eq_zero_or_one (y / 16) <;>
      obtain hz | hz := Nat.mod_two_eq_zero_or_one (z / 16) <;>
      simp [hx, hy, hz, Nat.add_mod]
  rw [and_0x10_ne_zero_iff, Nat.testBit_xor, Nat.testBit_xor, hodd]
  omega

theorem sub8_bit4_iff_borrow (a b f : Byte) :
    (a ^^^ b ^^^ (sub8 a b f).1) &&& 0x10#8 ≠ 0#8 ↔ a.toNat % 16 < b.toNat % 16 := by
  have hres : (sub8 a b f).1.toNat = (a.toNat + (512 - b.toNat)) % 256 := by
    rw [sub8, sub_toNat]
    omega
  rw [Ne, BitVec.toNat_eq, BitVec.toNat_and, BitVec.toNat_xor, BitVec.toNat_xor, hres]
  exact xor_bit4_iff_borrow b.isLt.le

/-! ## Increment and decrement (R180, R181) -/

theorem increment8_eq (v f : Byte) : increment8 v f =
    (BitVec.ofNat 8 (v.toNat + 1), flags (decide (v = 0xFF#8)) false (decide (v.toNat % 16 = 15)) (f.getLsbD 4)) := by
  have hz : BitVec.ofNat 8 (v.toNat + 1) = 0 ↔ v = 0xFF#8 := by
    have hv := v.isLt
    rw [ofNat_eq_zero_iff, BitVec.toNat_eq, BitVec.toNat_ofNat]
    omega
  have hh : v.toNat % 16 + 1 > 0xF ↔ v.toNat % 16 = 15 := by omega
  simp only [increment8, and_0xF, hz, hh, cOf]

theorem decrement8_eq (v f : Byte) : decrement8 v f =
    (BitVec.ofNat 8 (v.toNat + 255), flags (decide (v = 0x01#8)) true (decide (v.toNat % 16 = 0)) (f.getLsbD 4)) := by
  have hres : v - 1 = BitVec.ofNat 8 (v.toNat + 255) := by
    rw [BitVec.toNat_eq, sub_toNat, BitVec.toNat_ofNat]
    rfl
  have hz : v - 1 = 0 ↔ v = 0x01#8 := sub_eq_zero
  rw [hres] at hz
  simp only [decrement8, hres, hz, and_0xF, cOf]

/-! ## Addition, subtraction, exclusive or (R182 to R186) -/

theorem add8_eq (a b f : Byte) : add8 a b f =
    (BitVec.ofNat 8 (a.toNat + b.toNat), flags (decide ((a.toNat + b.toNat) % 256 = 0)) false
      (decide (a.toNat % 16 + b.toNat % 16 > 15)) (decide (a.toNat + b.toNat > 255))) := by
  simp only [add8, ofNat_eq_zero_iff, and_0xF]

theorem sub8_eq (a b f : Byte) : sub8 a b f =
    (a - b, flags (decide (a = b)) true (decide (a.toNat % 16 < b.toNat % 16)) (decide (a.toNat < b.toNat))) := by
  have hz : a - b = 0 ↔ a = b := sub_eq_zero
  have hh : (a ^^^ b ^^^ (a - b)) &&& 0x10#8 ≠ 0 ↔ a.toNat % 16 < b.toNat % 16 := sub8_bit4_iff_borrow a b f
  simp only [sub8, hz, hh]

theorem sbc8_eq (a b f : Byte) : sbc8 a b f =
    let b2 := b.toNat + (f.getLsbD 4).toNat
    (BitVec.ofNat 8 (a.toNat + (512 - b2)), flags (decide ((a.toNat + (512 - b2)) % 256 = 0)) true
      (decide (a.toNat % 16 < b2 % 16)) (decide (a.toNat < b2))) := by
  have hcin : (if cOf f = true then 1 else 0) = (f.getLsbD 4).toNat := by
    rw [cOf]
    cases f.getLsbD 4 <;> rfl
  have hb2 : b.toNat + (f.getLsbD 4).toNat ≤ 256 := by
    have hb := b.isLt
    have hc := Bool.toNat_le (f.getLsbD 4)
    omega
  simp only [sbc8, hcin]
  generalize b.toNat + (f.getLsbD 4).toNat = b2 at hb2
  have hres : a - BitVec.ofNat 8 b2 = BitVec.ofNat 8 (a.toNat + (512 - b2)) := by
    rw [BitVec.toNat_eq, sub_toNat, BitVec.toNat_ofNat, BitVec.toNat_ofNat]
    omega
  rw [hres, BitVec.toNat_ofNat]
  simp only [ofNat_eq_zero_iff, xor_bit4_iff_borrow hb2, Nat.reducePow]

theorem xor8_eq (a b f : Byte) : xor8 a b f = (a ^^^ b, flags (decide (a = b)) false false false) := by
  have hz : a ^^^ b = 0 ↔ a = b := BitVec.xor_eq_zero_iff
  simp only [xor8, hz]

/-- Settles O31, helper by helper. -/
theorem eightBitHelpersComputeResultAndFlags : Obligations.EightBitHelpersComputeResultAndFlags := by
  intro a b f
  rw [increment8_eq, decrement8_eq, add8_eq]
  exact ⟨BitVec.toNat_ofNat .., rfl, BitVec.toNat_ofNat .., rfl, BitVec.toNat_ofNat .., rfl, sub_toNat a b,
    congrArg Prod.snd (sub8_eq a b f), sub8_bit4_iff_borrow a b f, rfl, rfl, congrArg Prod.snd (xor8_eq a b f)⟩

/-! ## Rotates (R220 to R223) -/

theorem bitByte_toNat (b : Bool) : (bitByte b).toNat = b.toNat := by cases b <;> rfl

/-- A byte shifted left with a bit entering at bit 0. -/
theorem shiftLeft_or_bitByte (v : Byte) (b : Bool) :
    (v <<< 1 ||| bitByte b) = BitVec.ofNat 8 (2 * v.toNat + b.toNat) := by
  have hb : b.toNat < 2 ^ 1 := Nat.lt_succ_of_le (Bool.toNat_le b)
  have hshift : v.toNat <<< 1 % 256 = 2 ^ 1 * (v.toNat % 128) := by
    rw [Nat.shiftLeft_eq]
    omega
  rw [BitVec.toNat_eq, BitVec.toNat_or, BitVec.toNat_shiftLeft, bitByte_toNat, BitVec.toNat_ofNat, hshift,
    ← Nat.two_pow_add_eq_or_of_lt hb]
  omega

/-- A byte shifted right with a bit entering at bit 7. -/
theorem shiftRight_or_bitByte (v : Byte) (b : Bool) :
    (v >>> 1 ||| bitByte b <<< 7) = BitVec.ofNat 8 (v.toNat / 2 + 128 * b.toNat) := by
  have hv := v.isLt
  have hhalf : v.toNat / 2 < 2 ^ 7 := by omega
  have hshift : b.toNat <<< 7 % 256 = 2 ^ 7 * b.toNat := by cases b <;> rfl
  rw [BitVec.toNat_eq, BitVec.toNat_or, BitVec.toNat_ushiftRight, BitVec.toNat_shiftLeft, bitByte_toNat, BitVec.toNat_ofNat,
    hshift, Nat.shiftRight_eq_div_pow, Nat.or_comm, ← Nat.two_pow_add_eq_or_of_lt hhalf]
  cases b <;> simp only [Bool.toNat_true, Bool.toNat_false] <;> omega

theorem getLsbD_seven (v : Byte) : v.getLsbD 7 = decide (v.toNat ≥ 128) := by
  have hv := v.isLt
  have hbit : v.getLsbD 7 = decide (v.toNat / 2 ^ 7 % 2 = 1) := Nat.testBit_eq_decide_div_mod_eq
  rw [hbit, decide_eq_decide]
  omega

theorem getLsbD_zero (v : Byte) : v.getLsbD 0 = decide (v.toNat % 2 = 1) := by
  have hbit : v.getLsbD 0 = decide (v.toNat / 2 ^ 0 % 2 = 1) := Nat.testBit_eq_decide_div_mod_eq
  rw [hbit, Nat.pow_zero, Nat.div_one]

theorem rotateLeft_eq (v f : Byte) : rotateLeft v f =
    (BitVec.ofNat 8 (2 * v.toNat + v.toNat / 128), flags false false false (decide (v.toNat ≥ 128))) := by
  have hbit : (v.getLsbD 7).toNat = v.toNat / 128 := by
    have hv := v.isLt
    have hdigit : (v.getLsbD 7).toNat = v.toNat / 2 ^ 7 % 2 := Nat.toNat_testBit ..
    omega
  rw [rotateLeft, shiftLeft_or_bitByte, hbit, getLsbD_seven]

theorem rotateRight_eq (v f : Byte) : rotateRight v f =
    (BitVec.ofNat 8 (v.toNat / 2 + 128 * (v.toNat % 2)), flags false false false (decide (v.toNat % 2 = 1))) := by
  have hbit : (v.getLsbD 0).toNat = v.toNat % 2 := by
    have hdigit : (v.getLsbD 0).toNat = v.toNat / 2 ^ 0 % 2 := Nat.toNat_testBit ..
    rwa [Nat.pow_zero, Nat.div_one] at hdigit
  rw [rotateRight, shiftRight_or_bitByte, hbit, getLsbD_zero]

theorem rotateLeftThroughCarry_eq (v f : Byte) : rotateLeftThroughCarry v f =
    (BitVec.ofNat 8 (2 * v.toNat + (f.getLsbD 4).toNat),
      flags (decide ((2 * v.toNat + (f.getLsbD 4).toNat) % 256 = 0)) false false (decide (v.toNat ≥ 128))) := by
  simp only [rotateLeftThroughCarry, shiftLeft_or_bitByte, ofNat_eq_zero_iff, getLsbD_seven, cOf]

theorem rotateRightThroughCarry_eq (v f : Byte) : rotateRightThroughCarry v f =
    (BitVec.ofNat 8 (v.toNat / 2 + 128 * (f.getLsbD 4).toNat),
      flags (decide (v.toNat / 2 + 128 * (f.getLsbD 4).toNat = 0)) false false (decide (v.toNat % 2 = 1))) := by
  have hz : (v.toNat / 2 + 128 * (f.getLsbD 4).toNat) % 256 = 0 ↔ v.toNat / 2 + 128 * (f.getLsbD 4).toNat = 0 := by
    have hv := v.isLt
    have hc := Bool.toNat_le (f.getLsbD 4)
    omega
  simp only [rotateRightThroughCarry, shiftRight_or_bitByte, ofNat_eq_zero_iff, hz, getLsbD_zero, cOf]

end Sys2Proof.Machine
end

section
/-! PROOFS. The 8-bit instructions (42_alu8.md R187 to R205, 44_rotate_bit.md R225 to R238): what each shared operation does to
its operand, the flags and the rest of the state, then each instruction from its helper on integers. -/

namespace Sys2Proof.Machine

/-! ## The shared operations -/

/-- Read, compute, write back: the operand holds the result, the flags are the helper's, and nothing else has changed. -/
theorem modifyLoc_spec {op : Byte → Byte → Byte × Byte} {o : Loc} {s : State} {v r : Byte} {z n h c : Bool}
    (hv : LocHolds s o v) (hw : LocCanWrite s o) (hop : op v s.f = (r, flags z n h c)) :
    ∃ t, complete (modifyLoc op o) s = .next t ∧ t.status = s.status ∧ LocHolds t o r ∧ FlagsAre t z n h c ∧
      Frame (.reg .f :: locParts o) (locStores s o) s t := by
  have hrun := modifyLoc_ok op hv hw
  rw [hop] at hrun
  exact ⟨_, complete_ok hrun, by rw [State.set8_status, State.setLoc_status], hv.after_write _ _,
    FlagsAre.set8_flags z n h c _, Frame.modifyLoc s o _ _⟩

/-- The accumulator holds the result, the flags are the helper's, and nothing else has changed. -/
theorem accumulate_spec {op : Byte → Byte → Byte → Byte × Byte} {o : Src} {s : State} {v r : Byte} {z n h c : Bool}
    (hv : SrcHolds s o v) (hop : op s.a v s.f = (r, flags z n h c)) :
    ∃ t, complete (accumulate op o) s = .next t ∧ t.status = s.status ∧ t.a = r ∧ FlagsAre t z n h c ∧
      Frame [.reg .a, .reg .f] [] s t := by
  have hrun := accumulate_ok op hv
  rw [hop] at hrun
  exact ⟨_, complete_ok hrun, rfl, rfl, FlagsAre.set8_flags z n h c _,
    (Frame.set8 _ s r (by simp)).trans (Frame.set8 _ _ _ (by simp))⟩

/-- A write of `F` alone. -/
theorem setFlags_spec {m : Exec Unit} {s : State} {f : Byte} {z n h c : Bool} (hrun : m s = .ok () (s.set8 .f f))
    (hf : f = flags z n h c) :
    ∃ t, complete m s = .next t ∧ t.status = s.status ∧ FlagsAre t z n h c ∧ Frame [.reg .f] [] s t := by
  subst hf
  exact ⟨_, complete_ok hrun, rfl, FlagsAre.set8_flags z n h c s, Frame.set8 _ s _ (by simp)⟩

/-! ## Increment, decrement and arithmetic on the accumulator -/

/-- Settles O40, from the helper of R180 on integers. -/
theorem incrementByte : Obligations.IncrementByte := by
  intro o s v hv hw
  rw [exec_incLoc]
  exact modifyLoc_spec hv hw (increment8_eq v s.f)

/-- Settles O41, from the helper of R181 on integers. -/
theorem decrementByte : Obligations.DecrementByte := by
  intro o s v hv hw
  rw [exec_decLoc]
  exact modifyLoc_spec hv hw (decrement8_eq v s.f)

/-- Settles O42, from the helper of R182 on integers. -/
theorem addToAccumulator : Obligations.AddToAccumulator := by
  intro o s v hv
  rw [exec_addA]
  obtain ⟨t, hrun, hstatus, ha, hrest⟩ := accumulate_spec hv (add8_eq s.a v s.f)
  exact ⟨t, hrun, hstatus, by rw [ha, BitVec.toNat_ofNat], hrest⟩

/-- Settles O43, from the helper of R183 on integers. -/
theorem subtractFromAccumulator : Obligations.SubtractFromAccumulator := by
  intro o s v hv
  rw [exec_subA]
  obtain ⟨t, hrun, hstatus, ha, hrest⟩ := accumulate_spec hv (sub8_eq s.a v s.f)
  exact ⟨t, hrun, hstatus, by rw [ha, sub_toNat], hrest⟩

/-- Settles O44: an operand that ends in 0xF and takes the carry has low nibble 0, below which no low nibble lies. -/
theorem subtractWithCarryFromAccumulator : Obligations.SubtractWithCarryFromAccumulator := by
  intro o s v hv b2
  rw [exec_sbcA]
  obtain ⟨t, hrun, hstatus, ha, hflags, hframe⟩ := accumulate_spec hv (sbc8_eq s.a v s.f)
  refine ⟨t, hrun, hstatus, by rw [ha, BitVec.toNat_ofNat]; rfl, hflags, fun hnibble hcarry => ?_, hframe⟩
  have hb2 : b2 % 16 = 0 := by
    simp only [b2, hcarry, Bool.toNat_true]
    omega
  obtain ⟨-, -, hh, -, -⟩ := hflags
  rw [hh, decide_eq_false_iff_not]
  exact hb2 ▸ Nat.not_lt_zero _

/-- Settles O45, from the helper of R186. -/
theorem exclusiveOrWithAccumulator : Obligations.ExclusiveOrWithAccumulator := by
  intro o s v hv
  rw [exec_xorA]
  exact accumulate_spec hv (xor8_eq s.a v s.f)

/-- Settles O46: the flags of the subtraction, written alone. -/
theorem compareWithAccumulator : Obligations.CompareWithAccumulator := by
  intro o s v hv
  rw [exec_cpA]
  exact setFlags_spec (compareA_ok hv) (congrArg Prod.snd (sub8_eq s.a v s.f))

/-! ## Rotates and bit test -/

/-- The two forms of a rotate, on an operand and on the accumulator, are one operation. -/
theorem exec_rotate {k : Rot} {i : Instr} {o : Loc} (h : i = Instr.rotLoc k o ∨ (i = Instr.rotA k ∧ o = .r .a)) (s : State) :
    exec i s = complete (modifyLoc (rotateHelper k) o) s := by
  obtain rfl | ⟨rfl, rfl⟩ := h
  · exact exec_rotLoc k o s
  · exact exec_rotA k s

/-- Settles O50, from the helpers of R220 and R221 on integers. -/
theorem simpleRotates : Obligations.SimpleRotates := by
  refine fun o i s v hv hw => ⟨fun hi => ?_, fun hi => ?_⟩ <;> rw [exec_rotate hi]
  · exact modifyLoc_spec hv hw (rotateLeft_eq v s.f)
  · exact modifyLoc_spec hv hw (rotateRight_eq v s.f)

/-- Settles O51, from the helpers of R222 and R223 on integers. -/
theorem rotatesThroughCarry : Obligations.RotatesThroughCarry := by
  refine fun o i s v hv hw => ⟨fun hi => ?_, fun hi => ?_⟩ <;> rw [exec_rotate hi]
  · exact modifyLoc_spec hv hw (rotateLeftThroughCarry_eq v s.f)
  · exact modifyLoc_spec hv hw (rotateRightThroughCarry_eq v s.f)

/-- Settles O52, from BitTest on integers; the operand is read alone, so ROM serves too. -/
theorem testBit : Obligations.TestBit := by
  intro b o s v hv
  rw [exec_bitLoc]
  exact setFlags_spec (bitLoc_ok b hv) (bitTest_eq_flags b v s.f)

/-! ## Faults of a memory operand -/

/-- Settles O47: the read of the operand is the first access, and the write back the only other. -/
theorem memoryOperandsTrap : Obligations.MemoryOperandsTrap := by
  refine fun s => ⟨fun hun i hi => ?_, fun hrom i hi => ?_⟩
  · obtain ⟨op, rfl⟩ | ⟨b, rfl⟩ | rfl | rfl | ⟨k, rfl⟩ := hi
    · cases op with
      | add => exact (exec_addA .atHL s).trans (complete_error (accumulate_unused add8 hun))
      | sub => exact (exec_subA .atHL s).trans (complete_error (accumulate_unused sub8 hun))
      | sbc => exact (exec_sbcA .atHL s).trans (complete_error (accumulate_unused sbc8 hun))
      | xor => exact (exec_xorA .atHL s).trans (complete_error (accumulate_unused xor8 hun))
      | cp => exact (exec_cpA .atHL s).trans (complete_error (compareA_unused hun))
    · exact (exec_bitLoc b .atHL s).trans (complete_error (bitLoc_unused b hun))
    · exact (exec_incLoc .atHL s).trans (complete_error (modifyLoc_unused increment8 hun))
    · exact (exec_decLoc .atHL s).trans (complete_error (modifyLoc_unused decrement8 hun))
    · exact (exec_rotLoc k .atHL s).trans (complete_error (modifyLoc_unused (rotateHelper k) hun))
  · obtain rfl | rfl | ⟨k, rfl⟩ := hi
    · exact (exec_incLoc .atHL s).trans (complete_error (modifyLoc_rom increment8 hrom))
    · exact (exec_decLoc .atHL s).trans (complete_error (modifyLoc_rom decrement8 hrom))
    · exact (exec_rotLoc k .atHL s).trans (complete_error (modifyLoc_rom (rotateHelper k) hrom))

end Sys2Proof.Machine
end

section
/-! PROOFS. Loads and stores (41_loads.md R140 to R161) and 16-bit arithmetic (43_alu16.md R212 to R214). -/

namespace Sys2Proof.Machine

/-! ## Register and immediate moves -/

/-- A write of one register. -/
theorem setReg_spec {m : Exec Unit} {s : State} {g : GReg} {v : Byte} (hrun : m s = .ok () (s.set8 g.reg v)) :
    ∃ t, complete m s = .next t ∧ t.status = s.status ∧ t.get8 g.reg = v ∧ Frame [.reg g.reg] [] s t :=
  ⟨_, complete_ok hrun, State.set8_status s _ v, State.get8_set8_greg s g v, Frame.set8 _ s v (by simp)⟩

/-- A write of a pair operand or `sp`. -/
theorem setRp_spec {m : Exec Unit} {s : State} {p : Rp} {v : Word} (hrun : m s = .ok () (s.setRp p v)) :
    ∃ t, complete m s = .next t ∧ t.status = s.status ∧ t.getRp p = v ∧ Frame (rpParts p) [] s t :=
  ⟨_, complete_ok hrun, State.setRp_status s p v, State.getRp_setRp s p v, Frame.setRp _ s p v fun _ => id⟩

/-- Settles O34: each form is a write of one register, one pair or `sp`. -/
theorem loadRegisterFromRegisterOrImmediate : Obligations.LoadRegisterFromRegisterOrImmediate := by
  refine fun s => ⟨fun dst g => ?_, fun dst n => ?_, fun p nn => ?_, ?_⟩
  · rw [exec_ldRR]
    exact setReg_spec (copyReg_apply dst g s)
  · rw [exec_ldRN]
    exact setReg_spec (loadImm_apply dst n s)
  · rw [exec_ldRpNN]
    exact setRp_spec (loadRpImm_apply p nn s)
  · rw [exec_ld_SP_HL]
    exact setRp_spec (p := .sp) (loadSPFromHL_apply s)

/-! ## Loads from memory -/

theorem highPage_eq (n : Byte) : highPage n = BitVec.ofNat 16 (0xFF00 + n.toNat) := by
  rw [BitVec.ofNat_add, BitVec.ofNat_toNat]
  rfl

/-- The instruction loads a register from an address: where the byte cannot be read it faults with nothing changed. -/
def LoadsFrom (i : Instr) (s : State) (dst : GReg) (a : Word) : Prop :=
  (∀ v, s.peek a = some v → exec i s = .next (s.set8 dst.reg v)) ∧
    (InUnused a → exec i s = .next (s.setStatus (.faulted (.illegalMemoryAccess a .read))))

theorem loadsFrom_ldRAtHL (g : GReg) (s : State) : LoadsFrom (Instr.ldRAtHL g) s g s.hl := by
  unfold LoadsFrom
  rw [exec_ldRAtHL]
  exact ⟨fun v hv => complete_ok (loadReg_ok g hv), fun hun => complete_error (loadReg_unused g hun)⟩

theorem loadsFrom_ldAMem (m : AMem) (s : State) : LoadsFrom (Instr.ldAMem m) s .a (AMem.addr m s) := by
  unfold LoadsFrom
  rw [exec_ldAMem]
  exact ⟨fun v hv => complete_ok (loadReg_ok .a hv), fun hun => complete_error (loadReg_unused .a hun)⟩

/-- Settles O35: each form's address is the one written out, so one law of the load serves them all. -/
theorem loadFromMemory : Obligations.LoadFromMemory := by
  intro s i dst a hi
  have hload : LoadsFrom i s dst a := by
    obtain ⟨rfl, rfl⟩ | ⟨rfl, rfl, rfl⟩ | ⟨rfl, rfl, rfl⟩ | ⟨rfl, rfl⟩ | ⟨rfl, n, rfl, rfl⟩ | ⟨rfl, rfl, rfl⟩ := hi
    · exact loadsFrom_ldRAtHL dst s
    · exact loadsFrom_ldAMem .atBC s
    · exact loadsFrom_ldAMem .atDE s
    · exact loadsFrom_ldAMem (.atNN a) s
    · exact highPage_eq n ▸ loadsFrom_ldAMem (.highN n) s
    · exact highPage_eq s.c ▸ loadsFrom_ldAMem .highC s
  obtain ⟨hok, hfault⟩ := hload
  exact ⟨fun v hv => ⟨_, hok v hv, State.set8_status s _ v, State.get8_set8_greg s dst v, Frame.set8 _ s v (by simp)⟩,
    peek_some_of_not_unused, hfault⟩

/-- `HL` stepped, on integers (R211). -/
theorem stepHL_toNat (k : HLStep) (w : Word) : (stepHL k w).toNat =
    (match k with | .plus => (w.toNat + 1) % 65536 | .minus => (w.toNat + 65535) % 65536) := by
  cases k with
  | plus => exact increment16_toNat w
  | minus => exact decrement16_toNat w

theorem hl_set16 (s : State) (v : Word) : (s.set16 .hl v).hl = v := State.get16_set16 s v (by decide)

/-- Settles O36: `HL` is stepped after the read, which a fault leaves out. -/
theorem loadAccumulatorSteppingHL : Obligations.LoadAccumulatorSteppingHL := by
  refine fun s k => ⟨fun v hv => ?_, fun hun => ?_⟩ <;> rw [exec_ldAStep]
  · exact ⟨_, complete_ok (loadAStep_ok k hv), rfl, rfl, by rw [hl_set16]; exact stepHL_toNat k s.hl,
      (Frame.set8 _ s v (by simp)).trans (Frame.set16 _ _ _ (by simp [pairHi]) (by simp [pairLo]))⟩
  · exact complete_error (loadAStep_unused k hun)

/-! ## Stores -/

/-- The instruction stores a byte at an address: where it may not be written it faults with nothing changed. -/
def StoresTo (i : Instr) (s : State) (a : Word) (v : Byte) : Prop :=
  (CanWrite a → exec i s = .next (s.poke a v)) ∧
    (¬CanWrite a → exec i s = .next (s.setStatus (.faulted (.illegalMemoryAccess a .write))))

theorem storesTo_ldAtHLR (g : GReg) (s : State) : StoresTo (Instr.ldAtHLR g) s s.hl (s.get8 g.reg) := by
  unfold StoresTo
  rw [exec_ldAtHLR]
  exact ⟨fun hw => complete_ok (storeReg_ok g hw), fun hw => complete_error (storeReg_error g hw)⟩

theorem storesTo_ldMemA (m : AMem) (s : State) : StoresTo (Instr.ldMemA m) s (AMem.addr m s) s.a := by
  unfold StoresTo
  rw [exec_ldMemA]
  exact ⟨fun hw => complete_ok (storeReg_ok .a hw), fun hw => complete_error (storeReg_error .a hw)⟩

theorem storesTo_ld_atHL_n (n : Byte) (s : State) : StoresTo (.ld_atHL_n n) s s.hl n := by
  unfold StoresTo
  rw [exec_ld_atHL_n]
  exact ⟨fun hw => complete_ok (storeImm_ok n hw), fun hw => complete_error (storeImm_error n hw)⟩

theorem ldMemA_injective : Function.Injective Instr.ldMemA := by
  intro m m' h
  cases m <;> cases m' <;> cases h <;> rfl

/-- The high page lies above Unused. -/
theorem canWrite_highPage (n : Byte) : CanWrite (highPage n) := by
  have hn := n.isLt
  have haddr := toNat_ofNat_word (n := 0xFF00 + n.toNat) (by omega)
  rw [highPage_eq]
  omega

theorem canWrite_of_high {m : AMem} (h : (∃ n, m = .highN n) ∨ m = .highC) (s : State) : CanWrite (AMem.addr m s) := by
  obtain ⟨n, rfl⟩ | rfl := h
  · exact canWrite_highPage n
  · exact canWrite_highPage s.c

/-- Settles O37: each form's address is the one written out, so one law of the store serves them all. -/
theorem storeToMemory : Obligations.StoreToMemory := by
  intro s i a v hi
  have hstore : StoresTo i s a v ∧ ∀ m, i = Instr.ldMemA m → a = AMem.addr m s := by
    obtain ⟨g, rfl, rfl, rfl⟩ | ⟨rfl, rfl⟩ | ⟨rfl, rfl, rfl⟩ | ⟨rfl, rfl, rfl⟩ | ⟨rfl, rfl⟩ | ⟨n, rfl, rfl, rfl⟩ |
      ⟨rfl, rfl, rfl⟩ := hi
    · exact ⟨storesTo_ldAtHLR g s, fun m hm => by cases g <;> cases m <;> cases hm⟩
    · exact ⟨storesTo_ld_atHL_n v s, fun m hm => by cases m <;> cases hm⟩
    · exact ⟨storesTo_ldMemA .atBC s, fun m hm => ldMemA_injective hm ▸ rfl⟩
    · exact ⟨storesTo_ldMemA .atDE s, fun m hm => ldMemA_injective hm ▸ rfl⟩
    · exact ⟨storesTo_ldMemA (.atNN a) s, fun m hm => ldMemA_injective hm ▸ rfl⟩
    · exact ⟨highPage_eq n ▸ storesTo_ldMemA (.highN n) s, fun m hm => ldMemA_injective hm ▸ (highPage_eq n).symm⟩
    · exact ⟨highPage_eq s.c ▸ storesTo_ldMemA .highC s, fun m hm => ldMemA_injective hm ▸ (highPage_eq s.c).symm⟩
  obtain ⟨⟨hok, hfault⟩, haddr⟩ := hstore
  exact ⟨fun hw => ⟨_, hok hw, rfl, State.peek_poke_self v hw.2, Frame.poke _ s v (by simp)⟩,
    fun hbad => hfault (not_canWrite_iff.mpr hbad), fun m hm hhigh => haddr m hm ▸ canWrite_of_high hhigh s⟩

/-- Settles O38: `HL` is stepped after the write, which a fault leaves out. -/
theorem storeAccumulatorSteppingHL : Obligations.StoreAccumulatorSteppingHL := by
  refine fun s k => ⟨fun hw => ?_, fun hw => ?_⟩ <;> rw [exec_ldStepA]
  · exact ⟨_, complete_ok (storeAStep_ok k hw), rfl, by rw [State.peek_set16]; exact State.peek_poke_self s.a hw.2,
      by rw [hl_set16]; exact stepHL_toNat k s.hl,
      (Frame.poke _ s s.a (by simp)).trans (Frame.set16 _ _ _ (by simp [pairHi]) (by simp [pairLo]))⟩
  · exact complete_error (storeAStep_error k hw)

/-- Settles O39: a word write of `sp`. -/
theorem storeStackPointer : Obligations.StoreStackPointer := by
  refine fun s nn => ⟨fun hl hh => ?_, fun hl => ?_, fun hl hh => ?_⟩ <;> rw [exec_ld_atnn_SP]
  · obtain ⟨t, hrun, hstatus, -, hlo, hhi, hframe⟩ := writeWord_readWord (s := s) s.sp hl hh
    exact ⟨t, complete_ok ((storeSP_apply nn s).trans hrun), hstatus, hlo, hhi, hframe⟩
  · exact complete_error ((storeSP_apply nn s).trans (writeWord_low s.sp hl))
  · exact ⟨_, complete_error ((storeSP_apply nn s).trans (writeWord_high s.sp hl hh)), rfl, State.peek_poke_self _ hl.2,
      (Frame.poke _ s _ (by simp)).trans (Frame.setStatus _ _ _ _)⟩

/-! ## 16-bit arithmetic -/

/-- Settles O48, from the helper of R210 on integers. -/
theorem addPairToHL : Obligations.AddPairToHL := by
  intro p s
  rw [exec_addHL]
  refine ⟨_, complete_ok (addHL_apply p s), rfl, ?_, ?_,
    (Frame.set16 _ s _ (by simp [pairHi]) (by simp [pairLo])).trans (Frame.set8 _ _ _ (by simp))⟩
  · have hhl (t : State) (f : Byte) : (t.set8 .f f).hl = t.hl := rfl
    rw [hhl, hl_set16]
    exact add16_result_toNat s.hl (s.getRp p) s.f
  · rw [add16_flags]
    exact FlagsAre.set8_flags ..

/-- Settles O49, from the helpers of R211 on integers. -/
theorem stepPairOrStackPointer : Obligations.StepPairOrStackPointer := by
  refine fun p s => ⟨?_, ?_⟩
  · obtain ⟨t, hrun, hstatus, hp, hframe⟩ := setRp_spec (stepRp_apply increment16 p s)
    exact ⟨t, (exec_incRp p s).trans hrun, hstatus, by rw [hp, increment16_toNat], hframe⟩
  · obtain ⟨t, hrun, hstatus, hp, hframe⟩ := setRp_spec (stepRp_apply decrement16 p s)
    exact ⟨t, (exec_decRp p s).trans hrun, hstatus, by rw [hp, decrement16_toNat], hframe⟩

end Sys2Proof.Machine
end

section
/-! PROOFS. The stack primitives, pushes and pops, jumps, calls and returns (45_stack_control.md R240 to R251). -/

namespace Sys2Proof.Machine

/-! ## The stack primitives -/

theorem pushWord_spec {s : State} (v : Word) (hl : CanWrite (s.sp - 2#16)) (hh : CanWrite (s.sp - 1#16)) :
    ∃ t, pushWord v s = .ok () t ∧ t.status = s.status ∧ t.sp = s.sp - 2#16 ∧ t.peek (s.sp - 2#16) = some (loByte v) ∧
      t.peek (s.sp - 1#16) = some (hiByte v) ∧ Frame [.sp] [s.sp - 2#16, s.sp - 1#16] s t := by
  have hne : s.sp - 2#16 ≠ s.sp - 1#16 := sub_two_add_one s.sp ▸ (ne_add_one _).symm
  refine ⟨_, pushWord_ok v hl hh, rfl, rfl, ?_, State.peek_poke_self _ hh.2,
    ((Frame.setSp _ s _ (by simp)).trans (Frame.poke _ _ _ (by simp))).trans (Frame.poke _ _ _ (by simp))⟩
  rw [State.peek_poke_ne _ hne, State.peek_poke_self _ hl.2]

theorem pushWord_high_spec {s : State} (v : Word) (hl : CanWrite (s.sp - 2#16)) (hh : ¬CanWrite (s.sp - 1#16)) :
    ∃ t, pushWord v s = .error (.illegalMemoryAccess (s.sp - 1#16) .write) t ∧ t.sp = s.sp - 2#16 ∧
      t.peek (s.sp - 2#16) = some (loByte v) ∧ Frame [.sp] [s.sp - 2#16] s t :=
  ⟨_, pushWord_high v hl hh, rfl, State.peek_poke_self _ hl.2,
    (Frame.setSp _ s _ (by simp)).trans (Frame.poke _ _ _ (by simp))⟩

/-- A word at `sp - 2` is popped by a machine whose `sp` is there. -/
theorem popWord_of_pushed {s t : State} {v : Word} (hsp : t.sp = s.sp - 2#16) (hl : t.peek (s.sp - 2#16) = some (loByte v))
    (hh : t.peek (s.sp - 1#16) = some (hiByte v)) : popWord t = .ok v (t.setSp s.sp) := by
  have hpop := popWord_ok (s := t) (lo := loByte v) (hi := hiByte v) (by rwa [hsp]) (by rwa [hsp, sub_two_add_one])
  rwa [hsp, BitVec.sub_add_cancel, wordOf_hiByte_loByte] at hpop

/-- Settles O33: a word access at the decremented `sp`, and one at `sp`. -/
theorem stackPrimitivesArePushAndPop : Obligations.StackPrimitivesArePushAndPop := by
  refine fun s v => ⟨fun hl hh => ?_, pushWord_low v, pushWord_high_spec v, fun lo hi => popWord_ok, popWord_low, popWord_high⟩
  obtain ⟨t, hrun, hstatus, hsp, hlo, hhi, hframe⟩ := pushWord_spec v hl hh
  exact ⟨t, hrun, hstatus, hsp, hlo, hhi, hframe, popWord_of_pushed hsp hlo hhi⟩

/-! ## Pushes and pops of pairs -/

/-- Settles O53: the push of the word whose bytes are the pair's registers. -/
theorem pushPairObligation : Obligations.PushPair := by
  intro p s
  have hpush : pushPair p s = pushWord (s.get16 p) s := pushPair_apply p s
  have hlo : loByte (s.get16 p) = s.get8 (pairLo p) := loByte_wordOf _ _
  have hhi : hiByte (s.get16 p) = s.get8 (pairHi p) := hiByte_wordOf _ _
  rw [exec_push, ← hlo, ← hhi]
  refine ⟨fun hl hh => ?_, fun hl => complete_error (hpush.trans (pushWord_low _ hl)), fun hl hh => ?_⟩
  · obtain ⟨t, hrun, hrest⟩ := pushWord_spec (s.get16 p) hl hh
    exact ⟨t, complete_ok (hpush.trans hrun), hrest⟩
  · obtain ⟨t, hrun, hsp, hlo, hframe⟩ := pushWord_high_spec (s.get16 p) hl hh
    exact ⟨_, complete_error (hpush.trans hrun), rfl, hsp, hlo, hframe.trans (Frame.setStatus _ _ _ _)⟩

/-- Settles O54: the popped word's bytes go to the pair's registers, the one for `F` masked. -/
theorem popPairObligation : Obligations.PopPair := by
  intro p s
  rw [exec_pop]
  refine ⟨fun lo hi hl hh => ?_, fun hl => complete_error (popPair_error p (popWord_low hl)),
    fun hl hh => complete_error (popPair_error p (popWord_high hl hh))⟩
  refine ⟨_, complete_ok (popPair_ok p (popWord_ok hl hh)), State.set16_status .., State.set16_sp .., ?_, ?_,
    (Frame.setSp _ s _ (by simp)).trans (Frame.set16 _ _ _ (by simp) (by simp))⟩
  · rw [State.get8_set16_hi, hiByte_wordOf]
  · rw [State.get8_set16_lo, loByte_wordOf]

/-! ## Relative jumps -/

/-- The displacement is signed: the sum modulo 65536 is that of the integers (R245). -/
theorem add_sext16_toNat (pc : Word) (e : Byte) : ((pc + sext16 e).toNat : Int) = ((pc.toNat : Int) + e.toInt) % 65536 := by
  have he := e.isLt
  rw [BitVec.toNat_add, sext16, BitVec.toNat_signExtend, BitVec.toInt_eq_msb_cond, BitVec.toNat_setWidth]
  split <;> omega

/-- The condition of a jump, written out (R246 to R248). -/
theorem JumpCond.holds_iff (c : JumpCond) (s : State) :
    JumpCond.holds c s = true ↔ c = .always ∨ (c = .nz ∧ s.flagZ = false) ∨ (c = .z ∧ s.flagZ = true) := by
  cases c <;> simp [JumpCond.holds]

/-- Settles O55: `pc` is written where the condition holds, and nothing else is. -/
theorem relativeJumps : Obligations.RelativeJumps := by
  intro c e s
  rw [exec_jr]
  refine ⟨_, complete_ok (jumpRelative_apply c e s), ?_⟩
  simp only [← JumpCond.holds_iff]
  split
  · exact ⟨rfl, add_sext16_toNat s.pc e, Frame.setPc _ s _ (by simp)⟩
  · exact ⟨rfl, rfl, Frame.refl _ _ s⟩

/-! ## Calls and returns -/

/-- Settles O56: the push of `pc`, then the write of it. -/
theorem callPushesTheReturnAddress : Obligations.CallPushesTheReturnAddress := by
  intro nn s
  rw [exec_call_nn]
  refine ⟨fun hl hh => ?_, fun hl => complete_error (callAddr_error nn (pushWord_low _ hl)), fun hl hh => ?_⟩
  · obtain ⟨t, hrun, hstatus, hsp, hlo, hhi, hframe⟩ := pushWord_spec s.pc hl hh
    exact ⟨_, complete_ok (callAddr_ok nn hrun), hstatus, rfl, hsp, hlo, hhi,
      (hframe.mono (by simp) (by simp)).trans (Frame.setPc _ _ _ (by simp))⟩
  · obtain ⟨t, hrun, hsp, hlo, hframe⟩ := pushWord_high_spec s.pc hl hh
    exact ⟨_, complete_error (callAddr_error nn hrun), rfl, hsp, hlo, hframe.trans (Frame.setStatus _ _ _ _)⟩

theorem wordOf_toNat (hi lo : Byte) : (wordOf hi lo).toNat = 256 * hi.toNat + lo.toNat := by
  have hhi := hiByte_toNat (wordOf hi lo)
  have hlo := loByte_toNat (wordOf hi lo)
  rw [hiByte_wordOf] at hhi
  rw [loByte_wordOf] at hlo
  omega

/-- Settles O57: the popped word goes to `pc`. -/
theorem returnPopsIntoPc : Obligations.ReturnPopsIntoPc := by
  intro s
  rw [exec_ret]
  refine ⟨fun lo hi hl hh => ?_, fun hl => complete_error (returnFromCall_error (popWord_low hl)),
    fun hl hh => complete_error (returnFromCall_error (popWord_high hl hh))⟩
  exact ⟨_, complete_ok (returnFromCall_ok (popWord_ok hl hh)), rfl, wordOf_toNat hi lo, rfl,
    (Frame.setSp _ s _ (by simp)).trans (Frame.setPc _ _ _ (by simp))⟩

/-- Settles O58: no statement is run. -/
theorem nopChangesNothing : Obligations.NopChangesNothing := fun _ => rfl

/-- A part that is as it was need not be listed. -/
theorem Frame.of_same {p : Part} {ps : List Part} {ws : List Word} {s t : State} (h : Frame (p :: ps) ws s t)
    (hp : Part.Same p s t) : Frame ps ws s t := by
  obtain ⟨hparts, hrest⟩ := h
  refine ⟨fun q hq => ?_, hrest⟩
  by_cases hqp : q = p
  · exact hqp ▸ hp
  · exact hparts q (by simp [hqp, hq])

/-- Settles O59: the return pops the word the call pushed. -/
theorem callThenReturnComesBack : Obligations.CallThenReturnComesBack := by
  intro nn s hl hh
  obtain ⟨t, hcall, htstatus, -, htsp, htlo, hthi, htframe⟩ := (callPushesTheReturnAddress nn s).1 hl hh
  have hpop := popWord_of_pushed htsp htlo hthi
  refine ⟨t, _, hcall, (exec_ret t).trans (complete_ok (returnFromCall_ok hpop)), htstatus, ?_, htlo, hthi⟩
  have hframe : Frame [.sp, .pc] [s.sp - 2#16, s.sp - 1#16] s ((t.setSp s.sp).setPc s.pc) :=
    (htframe.trans (Frame.setSp _ t _ (by simp))).trans (Frame.setPc _ _ _ (by simp))
  exact (hframe.of_same rfl).of_same rfl

end Sys2Proof.Machine
end

section
/-! PROOFS. The escape byte (30_encoding.md R93, R94): its meaning goes by the fields of the byte after it, the decoder by the
grid of R96, and the two agree. -/

namespace Sys2Proof.Machine

/-- Entry by entry, over the rows of R96: the fields of the byte give the meaning of the entry's instruction. -/
theorem extendedBody_of_entry {b : Byte} {e : Entry} {i : Instr} (h : extendedEntry b = some e) (hform : e.form = .op i) :
    ∃ m, extendedBody b = some m ∧ ∀ s, exec i s = complete m s := by
  obtain ⟨n, hn, rfl⟩ := exists_eq_ofNat b
  interval_cases n <;> cases h <;> cases hform <;> exact ⟨_, rfl, fun _ => rfl⟩

/-- The byte after the escape is absent: the fault is raised with `pc` past it. -/
theorem runEscaped_absent {s : State} {b : Byte} (hb : s.peek s.pc = some b) (hentry : extendedEntry b = none) :
    runEscaped s = .error (.unimplementedOpcode b true) (s.setPc (s.pc + 1#16)) := by
  simp [runEscaped, fetch8_ok hb, hentry]

/-- The byte after the escape is an entry: it runs as the entry's instruction, its record emitted. -/
theorem exec_escape_of_entry {s : State} {b : Byte} {e : Entry} {i : Instr} (hb : s.peek s.pc = some b)
    (hentry : extendedEntry b = some e) (hform : e.form = .op i) :
    exec .escape s = exec i ((s.setPc (s.pc + 1#16)).addTrace ⟨s.pc - 1#16, b, i.mnemonic, true⟩) := by
  obtain ⟨m, hbody, hm⟩ := extendedBody_of_entry hentry hform
  obtain ⟨j, hform', -, henc⟩ := extendedEntry_encodesTo hentry
  obtain rfl : j = i := Form.op.inj (hform'.symm.trans hform)
  obtain ⟨-, hmnemonic, -⟩ := record_of_extended hentry henc
  rw [hm, exec_escape, hmnemonic]
  simp [complete, runEscaped, fetch8_ok hb, hentry, hbody]

theorem exec_escape_absent {s : State} {b : Byte} (hb : s.peek s.pc = some b) (hentry : extendedEntry b = none) :
    exec .escape s = .next ((s.setPc (s.pc + 1#16)).setStatus (.faulted (.unimplementedOpcode b true))) :=
  (exec_escape s).trans (complete_error (runEscaped_absent hb hentry))

theorem exec_escape_unused {s : State} (h : InUnused s.pc) :
    exec .escape s = .next (s.setStatus (.faulted (.illegalMemoryAccess s.pc .read))) := by
  rw [exec_escape]
  exact complete_error (by simp [runEscaped, fetch8_unused h])

/-- Settles O30, by what stands at `pc`: an entry of the extended table, an absent byte, or no byte. -/
theorem theEscapeRunsTheExtendedTable : Obligations.TheEscapeRunsTheExtendedTable := by
  refine fun s => ⟨fun b i hb hdec => ?_, fun b hb hdec => ?_, exec_escape_unused⟩
  · cases hentry : extendedEntry b with
    | none =>
      rw [decode_escape_eq_unimplemented_iff.mpr hentry] at hdec
      cases hdec
    | some e =>
      obtain ⟨j, -, -, hform, hdecode⟩ := decodeOperands_extended hentry
      obtain ⟨rfl, -⟩ := Decoded.instr.inj ((hdecode []).symm.trans hdec)
      obtain ⟨t, ht⟩ := exists_exec_eq_next j ((s.setPc (s.pc + 1#16)).addTrace ⟨s.pc - 1#16, b, j.mnemonic, true⟩)
      exact ⟨t, (exec_escape_of_entry hb hentry hform).trans ht, ht⟩
  · exact exec_escape_absent hb (decode_escape_eq_unimplemented_iff.mp hdec)

end Sys2Proof.Machine
end

section
/-! PROOFS. What an instruction can do at all: which parts of the state it may change (10_state.md R24, R27, R34; 45_stack_control.md
R252) and in which state it can raise a fault (60_exceptions.md R261, R266). Said once for every instruction; the obligations
follow. -/

namespace Sys2Proof.Machine

/-! ## The footprint of an instruction -/

/-- The instruction may change the part: `pc`, `sp` and `F` are for the instructions listed as writing them. -/
def MayChange (i : Instr) : Part → Prop
  | .pc => Instr.transfersControl i
  | .sp => Instr.writesSp i
  | .reg .f => Instr.writesFlags i
  | .reg _ => True

/-- The instructions that push a word. -/
def Pushes (i : Instr) : Prop := (∃ p, i = Instr.push p) ∨ ∃ nn, i = .call_nn nn

/-- The memory address decoder refuses the access (R59, R60). -/
def AccessFails (a : Word) : Access → Prop
  | .read => InUnused a
  | .write => InRom a ∨ InUnused a

/-- The state in which an instruction executed in `s` can raise a memory fault at an address: `s` itself, or, for a word write,
`s` with `sp` decremented or the low byte written (R64, R240). -/
inductive AtRaise (i : Instr) (s : State) : Word → Access → State → Prop
  | untouched (a : Word) (k : Access) : AtRaise i s a k s
  | pushed : Pushes i → AtRaise i s (s.sp - 2#16) .write (s.setSp (s.sp - 2#16))
  | halfPushed (v : Byte) : Pushes i → AtRaise i s (s.sp - 1#16) .write ((s.setSp (s.sp - 2#16)).poke (s.sp - 2#16) v)
  | halfStored (nn : Word) (v : Byte) : i = .ld_atnn_SP nn → AtRaise i s (nn + 1#16) .write (s.poke nn v)

/-- What an instruction executed in `s` leaves: it completes and changes what it may, or it takes a memory fault. -/
inductive Executed (i : Instr) (s : State) : State → Prop
  | completes {t : State} {ps : List Part} {ws : List Word} : t.status = s.status → Frame ps ws s t →
      (∀ p ∈ ps, MayChange i p) → (ws = [] ∨ Instr.storesToMemory i) → Executed i s t
  | faults {a : Word} {k : Access} {u : State} : AccessFails a k → AtRaise i s a k u →
      Executed i s (u.setStatus (.faulted (.illegalMemoryAccess a k)))

/-- The instruction executed in `s` answers such a state. -/
def HasFootprint (i : Instr) (s : State) : Prop := ∃ t, exec i s = .next t ∧ Executed i s t

section
variable {i : Instr} {s t : State}

theorem HasFootprint.of_frame {ps : List Part} {ws : List Word} (h : exec i s = .next t) (hstatus : t.status = s.status)
    (hframe : Frame ps ws s t) (hps : ∀ p ∈ ps, MayChange i p) (hws : ws = [] ∨ Instr.storesToMemory i) :
    HasFootprint i s := ⟨t, h, .completes hstatus hframe hps hws⟩

theorem HasFootprint.of_fault {a : Word} {k : Access} (h : exec i s = .next (s.setStatus (.faulted (.illegalMemoryAccess a k))))
    (hfails : AccessFails a k) : HasFootprint i s := ⟨_, h, .faults hfails (.untouched a k)⟩

theorem mayChange_greg (i : Instr) (g : GReg) : MayChange i (.reg g.reg) := by cases g <;> exact True.intro

/-- A byte operand holds a byte, or it is at `HL` in Unused. -/
theorem loc_read_cases (s : State) (o : Loc) : (∃ v, LocHolds s o v) ∨ o = .atHL ∧ InUnused s.hl := by
  cases o with
  | r g => exact .inl ⟨_, rfl⟩
  | atHL => exact (unused_or_peek s s.hl).symm.imp id fun hun => ⟨rfl, hun⟩

/-- A byte operand that holds a byte can be written back, or it is at `HL` in ROM. -/
theorem loc_write_cases {s : State} {o : Loc} {v : Byte} (hv : LocHolds s o v) :
    LocCanWrite s o ∨ o = .atHL ∧ InRom s.hl := by
  cases o with
  | r g => exact .inl True.intro
  | atHL => exact (Classical.em (InRom s.hl)).symm.imp (fun hrom => ⟨hrom, not_unused_of_peek hv⟩) fun hrom => ⟨rfl, hrom⟩

theorem src_cases (s : State) (o : Src) : (∃ v, SrcHolds s o v) ∨ o = .atHL ∧ InUnused s.hl := by
  cases o with
  | r g => exact .inl ⟨_, rfl⟩
  | atHL => exact (unused_or_peek s s.hl).symm.imp id fun hun => ⟨rfl, hun⟩
  | n v => exact .inl ⟨v, rfl⟩

/-! ## The footprint of each shared operation -/

theorem footprint_modifyLoc {op : Byte → Byte → Byte × Byte} {o : Loc} (h : exec i s = complete (modifyLoc op o) s)
    (hflags : Instr.writesFlags i) (hstores : o = .atHL → Instr.storesToMemory i) : HasFootprint i s := by
  obtain ⟨v, hv⟩ | ⟨rfl, hun⟩ := loc_read_cases s o
  case inr => exact .of_fault (k := .read) (h.trans (complete_error (modifyLoc_unused op hun))) hun
  obtain hw | ⟨rfl, hrom⟩ := loc_write_cases hv
  · refine .of_frame (h.trans (complete_ok (modifyLoc_ok op hv hw))) ?_ (Frame.modifyLoc s o _ _) ?_ ?_
    · rw [State.set8_status, State.setLoc_status]
    · cases o with
      | r g => simpa [locParts] using ⟨hflags, mayChange_greg i g⟩
      | atHL => simpa [locParts, MayChange] using hflags
    · cases o with
      | r g => exact .inl rfl
      | atHL => exact .inr (hstores rfl)
  · exact .of_fault (k := .write) (h.trans (complete_error (modifyLoc_rom op hrom))) (.inl hrom)

theorem footprint_accumulate {op : Byte → Byte → Byte → Byte × Byte} {o : Src}
    (h : exec i s = complete (accumulate op o) s) (hflags : Instr.writesFlags i) : HasFootprint i s := by
  obtain ⟨v, hv⟩ | ⟨rfl, hun⟩ := src_cases s o
  · exact .of_frame (h.trans (complete_ok (accumulate_ok op hv))) rfl
      ((Frame.set8 _ s _ (by simp)).trans (Frame.set8 _ _ _ (by simp)))
      (ps := [.reg .a, .reg .f]) (by simpa using ⟨mayChange_greg i .a, hflags⟩) (.inl rfl)
  · exact .of_fault (k := .read) (h.trans (complete_error (accumulate_unused op hun))) hun

theorem footprint_setFlags {m : Exec Unit} {f : Byte} (h : exec i s = complete m s) (hrun : m s = .ok () (s.set8 .f f))
    (hflags : Instr.writesFlags i) : HasFootprint i s :=
  .of_frame (h.trans (complete_ok hrun)) rfl (Frame.set8 _ s f (by simp)) (ps := [.reg .f]) (by simpa [MayChange] using hflags) (.inl rfl)

theorem footprint_loadsFrom {g : GReg} {a : Word} (h : LoadsFrom i s g a) : HasFootprint i s := by
  obtain ⟨hok, hfault⟩ := h
  obtain hun | ⟨v, hv⟩ := unused_or_peek s a
  · exact .of_fault (hfault hun) hun
  · exact .of_frame (hok v hv) (State.set8_status s _ v) (Frame.set8 _ s v (by simp)) (ps := [.reg g.reg])
      (by simpa using mayChange_greg i g) (.inl rfl)

theorem footprint_storesTo {a : Word} {v : Byte} (h : StoresTo i s a v) (hstores : Instr.storesToMemory i) :
    HasFootprint i s := by
  obtain ⟨hok, hfault⟩ := h
  by_cases hw : CanWrite a
  · exact .of_frame (hok hw) rfl (Frame.poke [] s v (ws := [a]) (by simp)) (by simp) (.inr hstores)
  · exact .of_fault (k := .write) (hfault hw) (not_canWrite_iff.mp hw)

theorem footprint_setRp {m : Exec Unit} {p : Rp} {v : Word} (h : exec i s = complete m s) (hrun : m s = .ok () (s.setRp p v))
    (hsp : p = .sp → Instr.writesSp i) : HasFootprint i s := by
  refine .of_frame (h.trans (complete_ok hrun)) (State.setRp_status s p v) (Frame.setRp [] s p v fun _ => id) ?_ (.inl rfl)
  cases p with
  | sp => simpa [rpParts, MayChange] using hsp rfl
  | _ => simp [rpParts, MayChange]

theorem Pushes.writesSp (h : Pushes i) : Instr.writesSp i := by
  obtain hp | hnn := h
  · exact .inr (.inr (.inr (.inr (.inl hp))))
  · exact .inr (.inr (.inr (.inr (.inr (.inr (.inl hnn))))))

theorem Pushes.storesToMemory (h : Pushes i) : Instr.storesToMemory i := by
  obtain hp | hnn := h
  · exact .inr (.inr (.inr (.inr (.inr (.inr (.inr (.inr (.inl hp))))))))
  · exact .inr (.inr (.inr (.inr (.inr (.inr (.inr (.inr (.inr hnn))))))))

/-- A push that fails on a byte, the first thing `PUSH` and `CALL` do. -/
theorem footprint_failedPush {m : Exec Unit} {v : Word} (h : exec i s = complete m s) (hpushes : Pushes i)
    (herror : ∀ f t, pushWord v s = .error f t → m s = .error f t)
    (hfails : ¬(CanWrite (s.sp - 2#16) ∧ CanWrite (s.sp - 1#16))) : HasFootprint i s := by
  by_cases hl : CanWrite (s.sp - 2#16)
  · have hh : ¬CanWrite (s.sp - 1#16) := fun hh => hfails ⟨hl, hh⟩
    exact ⟨_, h.trans (complete_error (herror _ _ (pushWord_high v hl hh))),
      .faults (not_canWrite_iff.mp hh) (.halfPushed (loByte v) hpushes)⟩
  · exact ⟨_, h.trans (complete_error (herror _ _ (pushWord_low v hl))), .faults (not_canWrite_iff.mp hl) (.pushed hpushes)⟩

/-- A pop that fails on a byte, the first thing `POP` and `RET` do. -/
theorem footprint_pop (hok : ∀ lo hi, s.peek s.sp = some lo → s.peek (s.sp + 1#16) = some hi → HasFootprint i s)
    (hl : InUnused s.sp → exec i s = .next (s.setStatus (.faulted (.illegalMemoryAccess s.sp .read))))
    (hh : ¬InUnused s.sp → InUnused (s.sp + 1#16) →
      exec i s = .next (s.setStatus (.faulted (.illegalMemoryAccess (s.sp + 1#16) .read)))) : HasFootprint i s := by
  obtain hun | ⟨lo, hlo⟩ := unused_or_peek s s.sp
  · exact .of_fault (hl hun) hun
  · obtain hun | ⟨hi, hhi⟩ := unused_or_peek s (s.sp + 1#16)
    · exact .of_fault (hh (not_unused_of_peek hlo) hun) hun
    · exact hok lo hi hlo hhi

end

/-! ## The footprint of each instruction -/

theorem footprint_push (p : Pair) (s : State) : HasFootprint (Instr.push p) s := by
  have hpushes : Pushes (Instr.push p) := .inl ⟨p, rfl⟩
  by_cases hw : CanWrite (s.sp - 2#16) ∧ CanWrite (s.sp - 1#16)
  · obtain ⟨t, hrun, hstatus, -, -, -, hframe⟩ := (pushPairObligation p s).1 hw.1 hw.2
    exact .of_frame hrun hstatus hframe (by simpa [MayChange] using hpushes.writesSp) (.inr hpushes.storesToMemory)
  · exact footprint_failedPush (exec_push p s) hpushes (fun f t h => (pushPair_apply p s).trans h) hw

theorem footprint_call (nn : Word) (s : State) : HasFootprint (.call_nn nn) s := by
  have hpushes : Pushes (.call_nn nn) := .inr ⟨nn, rfl⟩
  by_cases hw : CanWrite (s.sp - 2#16) ∧ CanWrite (s.sp - 1#16)
  · obtain ⟨t, hrun, hstatus, -, -, -, -, hframe⟩ := (callPushesTheReturnAddress nn s).1 hw.1 hw.2
    have hpc : Instr.transfersControl (.call_nn nn) := .inr (.inl ⟨nn, rfl⟩)
    exact .of_frame hrun hstatus hframe (by simpa [MayChange] using ⟨hpushes.writesSp, hpc⟩) (.inr hpushes.storesToMemory)
  · exact footprint_failedPush (exec_call_nn nn s) hpushes (fun f t => callAddr_error nn) hw

theorem footprint_popPair (p : Pair) (s : State) : HasFootprint (Instr.pop p) s := by
  obtain ⟨hok, hl, hh⟩ := popPairObligation p s
  refine footprint_pop (fun lo hi hlo hhi => ?_) hl hh
  obtain ⟨t, hrun, hstatus, -, -, -, hframe⟩ := hok lo hi hlo hhi
  have hsp : Instr.writesSp (Instr.pop p) := .inr (.inr (.inr (.inr (.inr (.inl ⟨p, rfl⟩)))))
  refine .of_frame hrun hstatus hframe ?_ (.inl rfl)
  cases p with
  | af =>
    have hflags : Instr.writesFlags .pop_AF := .inr (.inr (.inr (.inr (.inr (.inr (.inr rfl))))))
    simpa [MayChange, pairHi, pairLo] using ⟨hsp, hflags⟩
  | _ => simpa [MayChange, pairHi, pairLo] using hsp

theorem footprint_ret (s : State) : HasFootprint .ret s := by
  obtain ⟨hok, hl, hh⟩ := returnPopsIntoPc s
  refine footprint_pop (fun lo hi hlo hhi => ?_) hl hh
  obtain ⟨t, hrun, hstatus, -, -, hframe⟩ := hok lo hi hlo hhi
  have hsp : Instr.writesSp .ret := .inr (.inr (.inr (.inr (.inr (.inr (.inr rfl))))))
  have hpc : Instr.transfersControl .ret := .inr (.inr rfl)
  exact .of_frame hrun hstatus hframe (by simpa [MayChange] using ⟨hsp, hpc⟩) (.inl rfl)

theorem footprint_ldAStep (k : HLStep) (s : State) : HasFootprint (Instr.ldAStep k) s := by
  obtain ⟨hok, hfault⟩ := loadAccumulatorSteppingHL s k
  obtain hun | ⟨v, hv⟩ := unused_or_peek s s.hl
  · exact .of_fault (hfault hun) hun
  · obtain ⟨t, hrun, hstatus, -, -, hframe⟩ := hok v hv
    exact .of_frame hrun hstatus hframe (by simp [MayChange]) (.inl rfl)

theorem footprint_ldStepA (k : HLStep) (s : State) : HasFootprint (Instr.ldStepA k) s := by
  obtain ⟨hok, hfault⟩ := storeAccumulatorSteppingHL s k
  by_cases hw : CanWrite s.hl
  · obtain ⟨t, hrun, hstatus, -, -, hframe⟩ := hok hw
    exact .of_frame hrun hstatus hframe (by simp [MayChange]) (.inr (.inr (.inr (.inr (.inl ⟨k, rfl⟩)))))
  · exact .of_fault (k := .write) (hfault hw) (not_canWrite_iff.mp hw)

theorem footprint_storeSP (nn : Word) (s : State) : HasFootprint (.ld_atnn_SP nn) s := by
  obtain ⟨hok, hlow, -⟩ := storeStackPointer s nn
  have hstores : Instr.storesToMemory (.ld_atnn_SP nn) := .inr (.inr (.inr (.inr (.inl ⟨nn, rfl⟩))))
  by_cases hl : CanWrite nn
  · by_cases hh : CanWrite (nn + 1#16)
    · obtain ⟨t, hrun, hstatus, -, -, hframe⟩ := hok hl hh
      exact .of_frame hrun hstatus hframe (by simp) (.inr hstores)
    · exact ⟨_, complete_error ((storeSP_apply nn s).trans (writeWord_high s.sp hl hh)),
        .faults (not_canWrite_iff.mp hh) (.halfStored nn _ rfl)⟩
  · exact .of_fault (k := .write) (hlow hl) (not_canWrite_iff.mp hl)

theorem footprint_addHL (p : Rp) (s : State) : HasFootprint (Instr.addHL p) s := by
  obtain ⟨t, hrun, hstatus, -, -, hframe⟩ := addPairToHL p s
  have hflags : Instr.writesFlags (Instr.addHL p) := .inr (.inr (.inr (.inl ⟨p, rfl⟩)))
  exact .of_frame hrun hstatus hframe (by simpa [MayChange] using hflags) (.inl rfl)

theorem footprint_jr (c : JumpCond) (e : Byte) (s : State) : HasFootprint (Instr.jr c e) s := by
  obtain ⟨t, hrun, hstatus, -, hframe⟩ := relativeJumps c e s
  have hpc : Instr.transfersControl (Instr.jr c e) := .inl ⟨c, e, rfl⟩
  exact .of_frame hrun hstatus hframe (by simpa [MayChange] using hpc) (.inl rfl)

/-- The instructions on the accumulator and an operand write the flags (R34). -/
theorem writesFlags_alu (op : AluOp) (o : Src) : Instr.writesFlags (Instr.alu op o) := .inr (.inr (.inl ⟨op, o, rfl⟩))

/-- Every instruction has its footprint, in every state. -/
theorem hasFootprint (i : Instr) (hwf : i.WellFormed) (s : State) : HasFootprint i s := by
  cases i using Instr.form_cases with
  | on_ldRR dst g =>
    obtain ⟨hcopy, -⟩ := loadRegisterFromRegisterOrImmediate s
    obtain ⟨t, hrun, hstatus, -, hframe⟩ := hcopy dst g
    exact .of_frame hrun hstatus hframe (by simpa using mayChange_greg _ dst) (.inl rfl)
  | on_ldRAtHL g => exact footprint_loadsFrom (loadsFrom_ldRAtHL g s)
  | on_ldAtHLR g => exact footprint_storesTo (storesTo_ldAtHLR g s) (.inl ⟨g, rfl⟩)
  | on_ldRN g n =>
    obtain ⟨-, himmediate, -⟩ := loadRegisterFromRegisterOrImmediate s
    obtain ⟨t, hrun, hstatus, -, hframe⟩ := himmediate g n
    exact .of_frame hrun hstatus hframe (by simpa using mayChange_greg _ g) (.inl rfl)
  | on_ldAMem m => exact footprint_loadsFrom (loadsFrom_ldAMem m s)
  | on_ldMemA m => exact footprint_storesTo (storesTo_ldMemA m s) (.inr (.inr (.inl ⟨m, rfl⟩)))
  | on_ldAStep k => exact footprint_ldAStep k s
  | on_ldStepA k => exact footprint_ldStepA k s
  | on_ldRpNN p nn => exact footprint_setRp (exec_ldRpNN p nn s) (loadRpImm_apply p nn s) (by rintro rfl; exact .inl ⟨nn, rfl⟩)
  | on_incLoc o =>
    exact footprint_modifyLoc (exec_incLoc o s) (.inl ⟨o, rfl⟩)
      (by rintro rfl; exact .inr (.inr (.inr (.inr (.inr (.inl rfl))))))
  | on_decLoc o =>
    exact footprint_modifyLoc (exec_decLoc o s) (.inr (.inl ⟨o, rfl⟩))
      (by rintro rfl; exact .inr (.inr (.inr (.inr (.inr (.inr (.inl rfl)))))))
  | on_addA o => exact footprint_accumulate (exec_addA o s) (writesFlags_alu .add o)
  | on_subA o => exact footprint_accumulate (exec_subA o s) (writesFlags_alu .sub o)
  | on_sbcA o => exact footprint_accumulate (exec_sbcA o s) (writesFlags_alu .sbc o)
  | on_xorA o => exact footprint_accumulate (exec_xorA o s) (writesFlags_alu .xor o)
  | on_cpA o =>
    obtain ⟨v, hv⟩ | ⟨rfl, hun⟩ := src_cases s o
    · exact footprint_setFlags (exec_cpA o s) (compareA_ok hv) (writesFlags_alu .cp o)
    · exact .of_fault (k := .read) ((exec_cpA .atHL s).trans (complete_error (compareA_unused hun))) hun
  | on_addHL p => exact footprint_addHL p s
  | on_incRp p =>
    exact footprint_setRp (exec_incRp p s) (stepRp_apply increment16 p s) (by rintro rfl; exact .inr (.inr (.inl rfl)))
  | on_decRp p =>
    exact footprint_setRp (exec_decRp p s) (stepRp_apply decrement16 p s) (by rintro rfl; exact .inr (.inr (.inr (.inl rfl))))
  | on_rotA k =>
    exact footprint_modifyLoc (exec_rotA k s) (.inr (.inr (.inr (.inr (.inl ⟨k, rfl⟩))))) (fun h => by cases h)
  | on_rotLoc k o =>
    exact footprint_modifyLoc (exec_rotLoc k o s) (.inr (.inr (.inr (.inr (.inr (.inl ⟨k, o, rfl⟩))))))
      (by rintro rfl; exact .inr (.inr (.inr (.inr (.inr (.inr (.inr (.inl ⟨k, rfl⟩))))))))
  | on_bitLoc b o =>
    obtain ⟨v, hv⟩ | ⟨rfl, hun⟩ := loc_read_cases s o
    · exact footprint_setFlags (exec_bitLoc b o s) (bitLoc_ok b hv)
        (.inr (.inr (.inr (.inr (.inr (.inr (.inl ⟨b, o, rfl⟩)))))))
    · exact .of_fault (k := .read) ((exec_bitLoc b .atHL s).trans (complete_error (bitLoc_unused b hun))) hun
  | on_push p => exact footprint_push p s
  | on_pop p => exact footprint_popPair p s
  | on_jr c e => exact footprint_jr c e s
  | on_ld_atnn_SP nn => exact footprint_storeSP nn s
  | on_ld_atHL_n n => exact footprint_storesTo (storesTo_ld_atHL_n n s) (.inr (.inl ⟨n, rfl⟩))
  | on_ld_SP_HL => exact footprint_setRp (p := .sp) (exec_ld_SP_HL s) (loadSPFromHL_apply s) (fun _ => .inr (.inl rfl))
  | on_nop => exact .of_frame (nopChangesNothing s) rfl (Frame.refl [] [] s) (by simp) (.inl rfl)
  | on_ret => exact footprint_ret s
  | on_call_nn nn => exact footprint_call nn s
  | on_escape => cases hwf

theorem executed_of_exec {i : Instr} {s t : State} (hwf : i.WellFormed) (h : exec i s = .next t) : Executed i s t := by
  obtain ⟨u, hu, hexecuted⟩ := hasFootprint i hwf s
  cases h.symm.trans hu
  exact hexecuted

/-! ## What stays as it was -/

section
variable {i : Instr} {s t u : State} {a : Word} {k : Access}

/-- The state at a raise differs from the one before in `sp` and memory at most (R266). -/
theorem AtRaise.same (h : AtRaise i s a k u) :
    (∀ r, u.get8 r = s.get8 r) ∧ u.pc = s.pc ∧ u.trace = s.trace ∧ u.status = s.status := by
  cases h with
  | untouched => exact ⟨fun _ => rfl, rfl, rfl, rfl⟩
  | pushed => exact ⟨State.setSp_get8 s _, rfl, rfl, rfl⟩
  | halfPushed v => exact ⟨fun r => by rw [State.poke_get8, State.setSp_get8], rfl, rfl, rfl⟩
  | halfStored nn v => exact ⟨State.poke_get8 s nn v, rfl, rfl, rfl⟩

theorem AtRaise.sp (h : AtRaise i s a k u) : u.sp = s.sp ∨ (u.sp = s.sp - 2#16 ∧ Pushes i) := by
  cases h with
  | untouched => exact .inl rfl
  | pushed hp => exact .inr ⟨rfl, hp⟩
  | halfPushed v hp => exact .inr ⟨rfl, hp⟩
  | halfStored nn v => exact .inl rfl

/-- A part that the instruction may not change is as it was, whether it completes or faults. -/
theorem part_same_of_executed {p : Part} (h : Executed i s t) (hp : ¬MayChange i p) : Part.Same p s t := by
  cases h with
  | completes hstatus hframe hps hws =>
    obtain ⟨hparts, -⟩ := hframe
    exact hparts p fun hmem => hp (hps p hmem)
  | faults hfails hraise =>
    obtain ⟨hreg, hpc, -⟩ := hraise.same
    cases p with
    | reg r => exact (State.setStatus_get8 ..).trans (hreg r)
    | pc => exact hpc
    | sp =>
      obtain hsp | ⟨-, hpush⟩ := hraise.sp
      · exact hsp
      · exact absurd hpush.writesSp hp

/-- Settles O21: `pc` is outside the footprint of every other instruction. -/
theorem onlyControlTransfersMovePc : Obligations.OnlyControlTransfersMovePc :=
  fun _ _ _ hwf hpc h => part_same_of_executed (p := .pc) (executed_of_exec hwf h) hpc

/-- Settles O24: `F` is outside the footprint of every other instruction. -/
theorem onlyDocumentedInstructionsWriteFlags : Obligations.OnlyDocumentedInstructionsWriteFlags :=
  fun _ _ _ hwf hf h => part_same_of_executed (p := .reg .f) (executed_of_exec hwf h) hf

/-- No instruction of the extended table writes `sp`. -/
theorem not_writesSp_of_extended {b : Byte} (henc : encode i = [0xCB#8, b]) : ¬Instr.writesSp i := by
  rintro (⟨nn, rfl⟩ | rfl | rfl | rfl | ⟨_ | _, rfl⟩ | ⟨_ | _, rfl⟩ | ⟨nn, rfl⟩ | rfl) <;> cases henc

/-- The escape leaves `sp`, for no extended instruction writes it (R93, R96). -/
theorem sp_of_exec_escape (h : exec .escape s = .next t) : t.sp = s.sp := by
  obtain hun | ⟨b, hb⟩ := unused_or_peek s s.pc
  · cases h.symm.trans (exec_escape_unused hun)
    rfl
  · cases hentry : extendedEntry b with
    | none =>
      cases h.symm.trans (exec_escape_absent hb hentry)
      rfl
    | some e =>
      obtain ⟨j, hform, hwf, henc⟩ := extendedEntry_encodesTo hentry
      rw [exec_escape_of_entry hb hentry hform] at h
      have hsp := part_same_of_executed (p := .sp) (executed_of_exec hwf h) (not_writesSp_of_extended henc)
      exact hsp

/-- Settles O22: `sp` is outside the footprint of every other instruction; the escape has none, and is looked at by itself. -/
theorem onlyStackInstructionsMoveSp : Obligations.OnlyStackInstructionsMoveSp := by
  intro i s t hsp h
  by_cases hi : i = .escape
  · subst hi
    exact sp_of_exec_escape h
  · exact part_same_of_executed (p := .sp) (executed_of_exec (decide_eq_true hi) h) hsp

/-- Settles O23: a footprint with no stored address leaves memory, and only pushes and word stores fault half-way. -/
theorem onlyStoresWriteMemory : Obligations.OnlyStoresWriteMemory := by
  intro i s t hwf hstores h
  cases executed_of_exec hwf h with
  | completes hstatus hframe hps hws =>
    obtain rfl := hws.resolve_right hstores
    obtain ⟨-, -, -, hmem⟩ := hframe
    exact hmem
  | faults hfails hraise =>
    cases hraise with
    | untouched => exact SameMemoryOff.refl _ _
    | pushed => exact SameMemoryOff.refl _ _
    | halfPushed v hpush => exact absurd hpush.storesToMemory hstores
    | halfStored nn v hi => exact absurd (.inr (.inr (.inr (.inr (.inl ⟨nn, hi⟩))))) hstores

/-! ## Faults -/

/-- A running machine that an instruction faults has taken a memory fault. -/
theorem fault_of_executed {f : Fault} (h : Executed i s t) (hs : s.status = .running) (ht : t.status = .faulted f) :
    ∃ a k u, f = .illegalMemoryAccess a k ∧ AccessFails a k ∧ AtRaise i s a k u ∧ t = u.setStatus (.faulted f) := by
  cases h with
  | completes hstatus =>
    rw [hstatus, hs] at ht
    cases ht
  | faults hfails hraise =>
    cases ht
    exact ⟨_, _, _, rfl, hfails, hraise, rfl⟩

/-- Memory at a raise is as it was but for the first byte of a word, which lies just below the fault's address. -/
theorem AtRaise.memory (h : AtRaise i s a k u) :
    match k with
    | .read => SameMemoryOff [] s u
    | .write => SameMemoryOff [a - 1#16] s u ∧ (SameMemoryOff [] s u ∨ Pushes i ∨ ∃ nn, i = .ld_atnn_SP nn) := by
  cases h with
  | untouched =>
    cases k with
    | read => exact SameMemoryOff.refl _ s
    | write => exact ⟨SameMemoryOff.refl _ s, .inl (SameMemoryOff.refl _ s)⟩
  | pushed => exact ⟨SameMemoryOff.refl _ s, .inl (SameMemoryOff.refl _ s)⟩
  | halfPushed v hpush =>
    refine ⟨fun b hb => ?_, .inr (.inl hpush)⟩
    rw [List.mem_singleton, BitVec.sub_sub] at hb
    exact State.peek_poke_ne v hb
  | halfStored nn v hi =>
    refine ⟨fun b hb => ?_, .inr (.inr ⟨nn, hi⟩)⟩
    rw [List.mem_singleton, BitVec.add_sub_cancel] at hb
    exact State.peek_poke_ne v hb

/-- Settles O20: the state at the raise is one of the four of `AtRaise`. -/
theorem aFaultLeavesWhatWasReached : Obligations.AFaultLeavesWhatWasReached := by
  intro i s t f hwf hs h ht
  obtain ⟨a, k, u, rfl, -, hraise, rfl⟩ := fault_of_executed (executed_of_exec hwf h) hs ht
  obtain ⟨hreg, hpc, htrace, -⟩ := hraise.same
  refine ⟨fun r => (State.setStatus_get8 ..).trans (hreg r), hpc, htrace, hraise.sp, ?_⟩
  have hmem := hraise.memory
  cases k with
  | read => exact hmem
  | write => exact ⟨hmem.1, hmem.2.imp id fun hi => or_assoc.mp hi⟩

/-- Settles O27: the fetch raises it, and no instruction does. -/
theorem unimplementedOpcodeEndsTheRun : Obligations.UnimplementedOpcodeEndsTheRun := by
  refine ⟨fun s b x hs hdec => ?_, fun i s t b x hwf hs h ht => ?_⟩
  · obtain ⟨hpeek, -, hstep⟩ := step_unimplemented hs hdec
    exact ⟨hpeek, _, hstep, rfl, rfl, (Frame.setPc _ s _ (by simp)).trans (Frame.setStatus _ _ _ _)⟩
  · obtain ⟨a, k, u, hf, -⟩ := fault_of_executed (executed_of_exec hwf h) hs ht
    cases hf

/-- Settles O19, by what the bytes at `pc` decode to: an instruction raises a memory fault only, an absent opcode is the fetch's,
and too few bytes mean a byte in Unused. -/
theorem raisedFaultsAreTheTwoKinds : Obligations.RaisedFaultsAreTheTwoKinds := by
  intro s t f hs hstep ht
  cases hdec : decode s.codeAt with
  | instr i rest =>
    obtain ⟨hwf, -⟩ := everyDecodedWordIsAnEncoding i _ rest hdec
    rw [stepRunsTheDecodedInstruction s i rest hs hdec] at hstep
    obtain ⟨a, k, u, rfl, hfails, -⟩ := fault_of_executed (executed_of_exec hwf hstep) hs ht
    cases k <;> exact hfails
  | unimplementedOpcode b x =>
    obtain ⟨hpeek, hdecode, hstep'⟩ := step_unimplemented hs hdec
    cases hstep.symm.trans hstep'
    cases ht
    cases x with
    | false => exact ⟨hpeek, hdecode⟩
    | true => exact ⟨hpeek.1, hpeek.2, hdecode⟩
  | truncated =>
    obtain ⟨hun, u, hstep', hstatus, -⟩ := anUnreadableInstructionByteFaults s hs hdec
    cases hstep.symm.trans hstep'
    cases hstatus.symm.trans ht
    exact hun

end
end Sys2Proof.Machine
end

section
/-! PROOFS. Non-interference of the flags (10_state.md R25): a part of a step that uses `F` only to compute `F` answers the same
from two states that differ in `F` alone, but for `F`. -/

namespace Sys2Proof.Machine

/-- The state with another byte in `F`. -/
def State.withF (s : State) (x : Byte) : State := { s with f := x }

/-- The answer with another byte in `F` of its state. -/
def answerWithF {α : Type} (r : EStateM.Result Fault State α) (y : Byte) : EStateM.Result Fault State α :=
  match r with
  | .ok a t => .ok a (t.withF y)
  | .error f t => .error f (t.withF y)

/-- From states that differ in `F` alone, `m` and `m'` give the same value or fault, in states that differ in `F` at most. -/
def AgreeButF {α : Type} (m m' : Exec α) : Prop := ∀ s x, ∃ y, m' (s.withF x) = answerWithF (m s) y

theorem AgreeButF.bind {α β : Type} {m m' : Exec α} {k k' : α → Exec β} (hm : AgreeButF m m')
    (hk : ∀ a, AgreeButF (k a) (k' a)) : AgreeButF (m >>= k) (m' >>= k') := by
  intro s x
  obtain ⟨y, hy⟩ := hm s x
  rw [bind_apply, bind_apply, hy]
  cases m s with
  | ok a t => exact hk a t y
  | error f t => exact ⟨y, rfl⟩

/-! ## The operations that do not use `F` -/

theorem agree_pure {α : Type} (a : α) : AgreeButF (pure a : Exec α) (pure a) := fun _ x => ⟨x, rfl⟩

theorem agree_view {α : Type} {g : State → α} (hg : ∀ s x, g (s.withF x) = g s) : AgreeButF (view g) (view g) :=
  fun s x => ⟨x, by rw [view_apply, view_apply, hg]; rfl⟩

theorem agree_update {g : State → State} (hg : ∀ s x, ∃ y, g (s.withF x) = (g s).withF y) :
    AgreeButF (update g) (update g) := fun s x => (hg s x).imp fun y hy => by rw [update_apply, update_apply, hy]; rfl

theorem get8_withF (s : State) (x : Byte) (g : GReg) : (s.withF x).get8 g.reg = s.get8 g.reg := by cases g <;> rfl

theorem agree_readReg (g : GReg) : AgreeButF (readReg g.reg) (readReg g.reg) := agree_view fun s x => get8_withF s x g

theorem agree_writeReg (g : GReg) (v : Byte) : AgreeButF (writeReg g.reg v) (writeReg g.reg v) :=
  agree_update fun _ x => ⟨x, by cases g <;> rfl⟩

theorem agree_readByte (a : Word) : AgreeButF (readByte a) (readByte a) := fun s x =>
  ⟨x, by
    have hpeek : (s.withF x).peek a = s.peek a := rfl
    unfold readByte
    rw [hpeek]
    cases s.peek a <;> rfl⟩

theorem agree_writeByte (a : Word) (v : Byte) : AgreeButF (writeByte a v) (writeByte a v) := fun s x =>
  ⟨x, by
    by_cases hw : CanWrite a
    · rw [writeByte_poke v hw, writeByte_poke v hw]
      rfl
    · rw [writeByte_error v hw, writeByte_error v hw]
      rfl⟩

theorem agree_readWord (a : Word) : AgreeButF (readWord a) (readWord a) :=
  (agree_readByte _).bind fun _ => (agree_readByte _).bind fun _ => agree_pure _

theorem agree_writeWord (a v : Word) : AgreeButF (writeWord a v) (writeWord a v) :=
  (agree_writeByte _ _).bind fun _ => agree_writeByte _ _

theorem agree_setSp (g : State → Word) (hg : ∀ s x, g (s.withF x) = g s) :
    AgreeButF (update fun s => s.setSp (g s)) (update fun s => s.setSp (g s)) :=
  agree_update fun s x => ⟨x, by rw [hg]; rfl⟩

theorem agree_setPc (v : Word) : AgreeButF (update fun s => s.setPc v) (update fun s => s.setPc v) :=
  agree_update fun _ x => ⟨x, rfl⟩

theorem agree_pushWord (v : Word) : AgreeButF (pushWord v) (pushWord v) :=
  (agree_setSp _ fun _ _ => rfl).bind fun _ => (agree_view fun _ _ => rfl).bind fun _ => agree_writeWord _ _

theorem agree_popWord : AgreeButF popWord popWord :=
  (agree_view fun _ _ => rfl).bind fun _ => (agree_readWord _).bind fun _ => (agree_setSp _ fun _ _ => rfl).bind fun _ =>
    agree_pure _

theorem agree_viewHL : AgreeButF (view State.hl) (view State.hl) := agree_view fun _ _ => rfl

theorem agree_readLoc (o : Loc) : AgreeButF (readLoc o) (readLoc o) := by
  cases o with
  | r g => exact agree_readReg g
  | atHL => exact agree_viewHL.bind fun _ => agree_readByte _

theorem agree_writeLoc (o : Loc) (v : Byte) : AgreeButF (writeLoc o v) (writeLoc o v) := by
  cases o with
  | r g => exact agree_writeReg g v
  | atHL => exact agree_viewHL.bind fun _ => agree_writeByte _ _

theorem agree_readSrc (o : Src) : AgreeButF (readSrc o) (readSrc o) := by
  cases o with
  | r g => exact agree_readReg g
  | atHL => exact agree_viewHL.bind fun _ => agree_readByte _
  | n v => exact agree_pure v

theorem agree_setRp (g : State → Word) (p : Rp) (hg : ∀ s x, g (s.withF x) = g s) :
    AgreeButF (update fun s => s.setRp p (g s)) (update fun s => s.setRp p (g s)) :=
  agree_update fun s x => ⟨x, by rw [hg]; cases p <;> rfl⟩

theorem getRp_withF (s : State) (x : Byte) (p : Rp) : (s.withF x).getRp p = s.getRp p := by cases p <;> rfl

/-! ## The operations that use `F` to compute `F` -/

/-- `F` read: what follows may depend on it in `F` alone. -/
theorem agree_readF {α : Type} {k k' : Byte → Exec α} (hk : ∀ f f', AgreeButF (k f) (k' f')) :
    AgreeButF (readReg .f >>= k) (readReg .f >>= k') := fun s x => hk s.f x s x

/-- `F` written, with any two bytes. -/
theorem agree_writeF (v v' : Byte) : AgreeButF (writeReg .f v) (writeReg .f v') := fun _ _ => ⟨v' &&& 0xF0#8, rfl⟩

/-- The helper's result, its flags apart, does not depend on `F`. -/
def ResultIgnoresF {α β : Type} (op : Byte → α × β) : Prop := ∀ f f', (op f).1 = (op f').1

theorem agree_modifyLoc {op : Byte → Byte → Byte × Byte} (hop : ∀ v, ResultIgnoresF (op v)) (o : Loc) :
    AgreeButF (modifyLoc op o) (modifyLoc op o) :=
  (agree_readLoc o).bind fun v => agree_readF fun f f' => by
    dsimp only
    rw [hop v f f']
    exact (agree_writeLoc o _).bind fun _ => agree_writeF _ _

theorem agree_accumulate {op : Byte → Byte → Byte → Byte × Byte} (hop : ∀ a v, ResultIgnoresF (op a v)) (o : Src) :
    AgreeButF (accumulate op o) (accumulate op o) :=
  (agree_readSrc o).bind fun v => (agree_readReg .a).bind fun a => agree_readF fun f f' => by
    dsimp only
    rw [hop a v f f']
    exact (agree_writeReg .a _).bind fun _ => agree_writeF _ _

theorem agree_compareA (o : Src) : AgreeButF (compareA o) (compareA o) :=
  (agree_readSrc o).bind fun _ => (agree_readReg .a).bind fun _ => agree_readF fun _ _ => agree_writeF _ _

theorem agree_bitLoc (b : Fin 8) (o : Loc) : AgreeButF (bitLoc b o) (bitLoc b o) :=
  (agree_readLoc o).bind fun _ => agree_readF fun _ _ => agree_writeF _ _

theorem agree_addHL (p : Rp) : AgreeButF (addHL p) (addHL p) :=
  (agree_view fun s x => getRp_withF s x p).bind fun _ => agree_viewHL.bind fun _ => agree_readF fun _ _ =>
    (agree_update fun _ x => ⟨x, rfl⟩).bind fun _ => agree_writeF _ _

theorem agree_popPair (p : Pair) : AgreeButF (popPair p) (popPair p) :=
  agree_popWord.bind fun v => agree_update fun s x => by
    cases p with
    | af => exact ⟨loByte v &&& 0xF0#8, rfl⟩
    | _ => exact ⟨x, rfl⟩

/-- A simple rotate uses no flag; a rotate through carry is listed as a reader of flags. -/
theorem resultIgnoresF_rotateHelper {k : Rot} (hrl : k ≠ .rl) (hrr : k ≠ .rr) (v : Byte) :
    ResultIgnoresF (rotateHelper k v) := by
  cases k with
  | rlc => exact fun _ _ => rfl
  | rrc => exact fun _ _ => rfl
  | rl => exact absurd rfl hrl
  | rr => exact absurd rfl hrr

/-! ## The obligation -/

/-- The instruction's meaning is a part of a step that agrees with itself but for `F`. -/
theorem exists_agree_of_not_readsFlags {i : Instr} (hwf : i.WellFormed) (hi : ¬Instr.readsFlags i) :
    ∃ m, AgreeButF m m ∧ ∀ s, exec i s = complete m s := by
  cases i using Instr.form_cases with
  | on_ldRR dst g => exact ⟨_, (agree_readReg g).bind fun _ => agree_writeReg dst _, exec_ldRR dst g⟩
  | on_ldRAtHL g =>
    exact ⟨_, agree_viewHL.bind fun _ => (agree_readByte _).bind fun _ => agree_writeReg g _, exec_ldRAtHL g⟩
  | on_ldAtHLR g =>
    exact ⟨_, agree_viewHL.bind fun _ => (agree_readReg g).bind fun _ => agree_writeByte _ _, exec_ldAtHLR g⟩
  | on_ldRN g n => exact ⟨_, agree_writeReg g n, exec_ldRN g n⟩
  | on_ldAMem m =>
    exact ⟨_, (agree_view fun _ _ => by cases m <;> rfl).bind fun _ => (agree_readByte _).bind fun _ => agree_writeReg .a _,
      exec_ldAMem m⟩
  | on_ldMemA m =>
    exact ⟨_, (agree_view fun _ _ => by cases m <;> rfl).bind fun _ => (agree_readReg .a).bind fun _ => agree_writeByte _ _,
      exec_ldMemA m⟩
  | on_ldAStep k =>
    exact ⟨_, agree_viewHL.bind fun _ => (agree_readByte _).bind fun _ => (agree_writeReg .a _).bind fun _ =>
      agree_setRp (fun s => stepHL k s.hl) .hl fun _ _ => rfl, exec_ldAStep k⟩
  | on_ldStepA k =>
    exact ⟨_, agree_viewHL.bind fun _ => (agree_readReg .a).bind fun _ => (agree_writeByte _ _).bind fun _ =>
      agree_setRp (fun s => stepHL k s.hl) .hl fun _ _ => rfl, exec_ldStepA k⟩
  | on_ldRpNN p nn => exact ⟨_, agree_setRp (fun _ => nn) p fun _ _ => rfl, exec_ldRpNN p nn⟩
  | on_incLoc o => exact ⟨_, agree_modifyLoc (fun _ _ _ => rfl) o, exec_incLoc o⟩
  | on_decLoc o => exact ⟨_, agree_modifyLoc (fun _ _ _ => rfl) o, exec_decLoc o⟩
  | on_addA o => exact ⟨_, agree_accumulate (fun _ _ _ _ => rfl) o, exec_addA o⟩
  | on_subA o => exact ⟨_, agree_accumulate (fun _ _ _ _ => rfl) o, exec_subA o⟩
  | on_sbcA o => exact absurd (.inr (.inr (.inl ⟨o, rfl⟩))) hi
  | on_xorA o => exact ⟨_, agree_accumulate (fun _ _ _ _ => rfl) o, exec_xorA o⟩
  | on_cpA o => exact ⟨_, agree_compareA o, exec_cpA o⟩
  | on_addHL p => exact ⟨_, agree_addHL p, exec_addHL p⟩
  | on_incRp p =>
    exact ⟨_, agree_setRp (fun s => increment16 (s.getRp p)) p fun s x => by rw [getRp_withF], exec_incRp p⟩
  | on_decRp p =>
    exact ⟨_, agree_setRp (fun s => decrement16 (s.getRp p)) p fun s x => by rw [getRp_withF], exec_decRp p⟩
  | on_rotA k =>
    have hrl : k ≠ .rl := by rintro rfl; exact hi (.inr (.inr (.inr (.inl rfl))))
    have hrr : k ≠ .rr := by rintro rfl; exact hi (.inr (.inr (.inr (.inr (.inl rfl)))))
    exact ⟨_, agree_modifyLoc (resultIgnoresF_rotateHelper hrl hrr) _, exec_rotA k⟩
  | on_rotLoc k o =>
    have hrl : k ≠ .rl := by rintro rfl; exact hi (.inr (.inr (.inr (.inr (.inr (.inl ⟨o, rfl⟩))))))
    have hrr : k ≠ .rr := by rintro rfl; exact hi (.inr (.inr (.inr (.inr (.inr (.inr (.inl ⟨o, rfl⟩)))))))
    exact ⟨_, agree_modifyLoc (resultIgnoresF_rotateHelper hrl hrr) o, exec_rotLoc k o⟩
  | on_bitLoc b o => exact ⟨_, agree_bitLoc b o, exec_bitLoc b o⟩
  | on_push p =>
    have haf : p ≠ .af := by rintro rfl; exact hi (.inr (.inr (.inr (.inr (.inr (.inr (.inr rfl)))))))
    refine ⟨_, (agree_view fun s x => ?_).bind fun _ => agree_pushWord _, exec_push p⟩
    cases p with
    | af => exact absurd rfl haf
    | _ => rfl
  | on_pop p => exact ⟨_, agree_popPair p, exec_pop p⟩
  | on_jr c e =>
    cases c with
    | always => exact ⟨_, agree_update fun _ x => ⟨x, rfl⟩, exec_jr .always e⟩
    | nz => exact absurd (.inl ⟨e, rfl⟩) hi
    | z => exact absurd (.inr (.inl ⟨e, rfl⟩)) hi
  | on_ld_atnn_SP nn =>
    exact ⟨_, (agree_view fun _ _ => rfl).bind fun _ => agree_writeWord nn _, exec_ld_atnn_SP nn⟩
  | on_ld_atHL_n n => exact ⟨_, agree_viewHL.bind fun _ => agree_writeByte _ n, exec_ld_atHL_n n⟩
  | on_ld_SP_HL => exact ⟨_, agree_setSp State.hl fun _ _ => rfl, exec_ld_SP_HL⟩
  | on_nop => exact ⟨_, agree_pure (), exec_nop⟩
  | on_ret => exact ⟨_, agree_popWord.bind fun v => agree_setPc v, exec_ret⟩
  | on_call_nn nn =>
    exact ⟨_, (agree_view fun _ _ => rfl).bind fun _ => (agree_pushWord _).bind fun _ => agree_setPc nn, exec_call_nn nn⟩
  | on_escape => cases hwf

/-- The end of such a part answers next states that differ in `F` at most. -/
theorem AgreeButF.complete {m : Exec Unit} (hm : AgreeButF m m) {s t : State} (x : Byte) (h : complete m s = .next t) :
    ∃ y, complete m (s.withF x) = .next (t.withF y) := by
  obtain ⟨y, hy⟩ := hm s x
  refine ⟨y, ?_⟩
  unfold Machine.complete at h ⊢
  rw [hy]
  cases hrun : m s with
  | ok a u =>
    rw [hrun] at h
    cases h
    rfl
  | error f u =>
    rw [hrun] at h
    cases h
    rfl

/-- Settles O25. -/
theorem flagsAreReadByTheListedInstructionsOnly : Obligations.FlagsAreReadByTheListedInstructionsOnly := by
  intro i s t x hwf hi h
  obtain ⟨m, hagree, hm⟩ := exists_agree_of_not_readsFlags hwf hi
  obtain ⟨y, hy⟩ := hagree.complete x ((hm s).symm.trans h)
  exact ⟨y, (hm (s.withF x)).trans hy⟩

end Sys2Proof.Machine
end
